-- ==== Sys2Proof/Word.lean ====
section
/-! DEFINITION. The words the parser meets: a byte (spec/00_scope.md R11) and the three forms in which a row of the opcode table reaches the decoder. -/

namespace Sys2Proof

/-- A byte is 8 bits, the unit of every interface event (R11). -/
abbrev Byte := BitVec 8

/-- What the decoder is given: one interface event word (format `EVENT10`, R99), the outbound bytes of a whole
window (whose first seven are the frame of format `FRAME56`, R81), or an interrupt-status value (format `PAY32`, R89). -/
inductive CodeWord where
  | event10 (e : BitVec 10)
  | frame (out : List Byte)
  | pay32 (p : BitVec 32)
deriving DecidableEq, Repr

end Sys2Proof
end

