-- ==== Sys2Proof/Record.lean ====
section
/-! DEFINITION. The enumerations and records the spec's rules speak of (spec/30_encoding.md R85, R100, R101; spec/10_state.md R27; spec/60_exceptions.md R241): types only. R106 asks for enumerated types, so that the codes never produced do not exist. -/

namespace Sys2Proof

/-- The states of the assembler's state machine, in code order 0 to 4 (R27). -/
inductive FsmState where
  | awaitingFrame
  | frameRecognized
  | payloadPending
  | complete
  | rejected
deriving DecidableEq, Repr, Inhabited

/-- The error class recorded for a window, in code order 0 to 4 (R26, R241). -/
inductive Cause where
  /-- 0: nothing to report -/
  | none
  /-- 1: `MalformedFrame`, fewer than seven outbound bytes -/
  | malformedShort
  /-- 2: `MalformedFrame`, wrong start marker -/
  | malformedMarker
  /-- 3: `MalformedFrame`, wrong command pattern -/
  | malformedCommand
  /-- 4: `TruncatedPayload` -/
  | truncatedPayload
deriving DecidableEq, Repr, Inhabited

/-- The category of a transaction, in code order 0 to 2 (R100, R141). -/
inductive Category where
  | cardControl
  | registerControl
  | bulkData
deriving DecidableEq, Repr, Inhabited

/-- The interrupt recognition of a transaction (R144). -/
inductive IrqKind where
  | none
  | irqRead
  | irqClear
deriving DecidableEq, Repr, Inhabited

/-- The eight transaction kinds, in code order 0 to 7 (R101). -/
inductive Kind where
  | cardRd
  | cardWr
  | cmd53Rd
  | cmd53Wr
  | irqRd
  | irqClr
  | bulkRd
  | bulkWr
deriving DecidableEq, Repr, Inhabited

/-- The answer of `FRAME_CHECK` (R122). -/
inductive FrameCheck where
  | ok
  | badMarker
  | badCommand
deriving DecidableEq, Repr, Inhabited

/-- The six fields of the 32-bit command argument (R85). -/
structure Argument where
  isWrite : Bool
  function : BitVec 3
  blockMode : Bool
  incrementAddressing : Bool
  address : BitVec 17
  count : BitVec 9
deriving DecidableEq, Repr, Inhabited

/-- A four-byte operand, in transfer order. -/
structure Bytes4 where
  b0 : Byte
  b1 : Byte
  b2 : Byte
  b3 : Byte
deriving DecidableEq, Repr

/-- The parts of a frame (R121). -/
structure FrameParts where
  startMarker : Byte
  directionAndIndex : Byte
  argBytes : Bytes4
  crcByte : Byte
  /-- the 48-bit command word `C` (R83) -/
  commandWord : BitVec 48
deriving DecidableEq, Repr

/-- The two payload fields of a record, present or absent together (R100, R174; 93_implementation_defined.md U4). -/
structure IrqPayload where
  /-- `rec[69:38]`: the raw payload -/
  decodedPayload : BitVec 32
  /-- `rec[101:70]`: the payload's defined interrupt bits, the hardware form of `activeInterruptNames` -/
  activeMask : BitVec 32
deriving DecidableEq, Repr, Inhabited

/-- The Transaction record, the contents of the register `rec` with its two labels (R100). -/
structure Transaction where
  /-- `rec[31:0]`: the argument's six fields, unchanged -/
  argument : Argument
  /-- `FUNC_LABEL(function)`, absent when the table has no entry (R147, R148) -/
  functionLabel : Option String
  /-- `ADDR_LABEL(address)`, absent when the table has no entry (R147) -/
  addressLabel : Option String
  /-- `rec[33:32]` -/
  category : Category
  /-- `rec[36:34]` -/
  kind : Kind
  /-- `rec[37]` says whether it is present, `rec[101:38]` holds it -/
  payload : Option IrqPayload
deriving DecidableEq, Repr, Inhabited

end Sys2Proof
end

