-- ==== Sys2Proof/Config.lean ====
section
/-! DEFINITION. The parser's configuration record with the spec's default values (spec/00_scope.md R5, R9, R10; the summary of spec/92_eei_decisions.md), the two lengths that R10 makes not adjustable, and the opaque free values (spec/93_implementation_defined.md U2, U3). -/

namespace Sys2Proof

/-- The adjustable constants and the three read-only tables of R9. A machine holds one such record in its state
(`State.cfg`), fixed for the life of the machine, so that what is said of every state is said of every configuration. -/
structure Config where
  /-- `START_MARKER` -/
  startMarker : Byte
  /-- `CMD_MASK` -/
  cmdMask : Byte
  /-- `CMD_MATCH` -/
  cmdMatch : Byte
  /-- `IRQ_STATUS_ADDR` -/
  irqStatusAddr : BitVec 17
  /-- `IRQ_CLEAR_ADDR` -/
  irqClearAddr : BitVec 17
  /-- `PAYLOAD_OFFSET`, 0 to 11 for the 4-bit `icnt` (U12, D3) -/
  payloadOffset : Fin 12
  /-- `BLOCK_SIZE` in bytes; R10 wants 512 (`Config.wf`) -/
  blockSize : Nat
  /-- `IRQ_DEFINED_MASK`: a 1 at each defined position of the interrupt-status value (R96) -/
  irqDefinedMask : BitVec 32
  /-- `FUNC_LABEL`: function number to label, OPEN (D18) -/
  funcLabel : List (BitVec 3 × String)
  /-- `ADDR_LABEL` (the KnownAddressTable): address to label, OPEN (D18) -/
  addrLabel : List (BitVec 17 × String)
  /-- `IRQ_NAME` (the InterruptBitTable): bit position to name, OPEN (D18) -/
  irqName : List (Nat × String)
deriving DecidableEq, Repr

/-- `FRAME_LEN`, not adjustable (R10). -/
def frameLen : Nat := 7

/-- `PAYLOAD_LEN`, not adjustable (R10). -/
def payloadLen : Nat := 4

/-- The bit positions the configuration's mask defines, ascending (R95, R96). -/
def irqDefinedPositions (c : Config) : List Nat := (List.range 32).filter c.irqDefinedMask.getLsbD

/-- The constraints of R10 (with D2's `CMD_MATCH & ~CMD_MASK == 0`) that the field types do not already say. -/
def Config.wf (c : Config) : Bool :=
  c.irqStatusAddr != c.irqClearAddr
    && (c.cmdMatch &&& ~~~c.cmdMask) == 0#8
    && c.blockSize == 512
    && (List.range 32).all fun n => (c.irqName.lookup n).isSome == c.irqDefinedMask.getLsbD n

/-- The number of inbound bytes at which `icnt` saturates: `PAYLOAD_OFFSET + PAYLOAD_LEN` (R23). -/
def Config.payloadEnd (c : Config) : Nat := c.payloadOffset.val + payloadLen

/-- The defaults of R9. The tables are OPEN in the spec (D18, default "none"): no label is listed, and each defined
interrupt bit carries the identifier `IRQ_BIT_n` that R95 writes for it (DESIGN CHOICE, log 2, unsafe). -/
def Config.default : Config where
  startMarker := 0xFF#8
  cmdMask := 0xFF#8
  cmdMatch := 0x75#8
  irqStatusAddr := 0x06050#17
  irqClearAddr := 0x06058#17
  payloadOffset := 11
  blockSize := 512
  irqDefinedMask := 0x0FFEBFFF#32
  funcLabel := []
  addrLabel := []
  irqName :=
    [(0, "IRQ_BIT_0"), (1, "IRQ_BIT_1"), (2, "IRQ_BIT_2"), (3, "IRQ_BIT_3"), (4, "IRQ_BIT_4"),
     (5, "IRQ_BIT_5"), (6, "IRQ_BIT_6"), (7, "IRQ_BIT_7"), (8, "IRQ_BIT_8"), (9, "IRQ_BIT_9"),
     (10, "IRQ_BIT_10"), (11, "IRQ_BIT_11"), (12, "IRQ_BIT_12"), (13, "IRQ_BIT_13"), (15, "IRQ_BIT_15"),
     (17, "IRQ_BIT_17"), (18, "IRQ_BIT_18"), (19, "IRQ_BIT_19"), (20, "IRQ_BIT_20"), (21, "IRQ_BIT_21"),
     (22, "IRQ_BIT_22"), (23, "IRQ_BIT_23"), (24, "IRQ_BIT_24"), (25, "IRQ_BIT_25"), (26, "IRQ_BIT_26"),
     (27, "IRQ_BIT_27")]

/-- FREE VALUE (log 7, safe): the bytes that `obuf` and `ibuf` hold after a reset that arrives while the machine
runs, which the spec leaves unspecified (R37, U2). -/
opaque Config.freeByte : Nat → Byte

/-- FREE VALUE (log 7, safe): the contents of `rec` after a reset that arrives while the machine runs, which the
spec leaves unspecified (R37, U3). -/
opaque Config.freeTransaction : Nat → Transaction

end Sys2Proof
end

