-- ==== Sys2Proof/Syntax.lean ====
section
/-! DEFINITION. The ONE inductive of instructions: a constructor for each of the 40 rows of spec/opcode_table.json (spec/00_scope.md R3 says what stands for an instruction on this hardware). -/

namespace Sys2Proof

/-- The rows of the opcode table.

Rows of format `FRAME56` (spec/30_encoding.md R103, in priority order): a whole command frame. Their operands are
the frame's bits that the row does not fix: `dir` the `directionAndIndex` byte (R84: only the bits under `CMD_MASK`
are tested), `fn` the function number, `bm` `blockMode`, `inc` `incrementAddressing`, `addr` the address, `cnt` the
count and `crc` the CRC byte (R86: any value).
Rows of format `EVENT10` (R99): one interface event. Rows of format `PAY32` (R95, R161): one set bit of an
interrupt-status value. -/
inductive Instr where
  /-- row 1: read, function 0 (R191) -/
  | cardRd (dir : Byte) (bm inc : Bool) (addr : BitVec 17) (cnt : BitVec 9) (crc : Byte)
  /-- row 2: write, function 0 (R192) -/
  | cardWr (dir : Byte) (bm inc : Bool) (addr : BitVec 17) (cnt : BitVec 9) (crc : Byte)
  /-- row 3: read of `IRQ_STATUS_ADDR`, function not 0 (R195) -/
  | irqRd (dir : Byte) (fn : BitVec 3) (bm inc : Bool) (cnt : BitVec 9) (crc : Byte)
  /-- row 4: write to `IRQ_CLEAR_ADDR`, function not 0 (R196) -/
  | irqClr (dir : Byte) (fn : BitVec 3) (bm inc : Bool) (cnt : BitVec 9) (crc : Byte)
  /-- row 5: `CMD53_WR`, write to `IRQ_STATUS_ADDR`, function not 0 (R194) -/
  | cmd53WrStatus (dir : Byte) (fn : BitVec 3) (bm inc : Bool) (cnt : BitVec 9) (crc : Byte)
  /-- row 6: `CMD53_RD`, read of `IRQ_CLEAR_ADDR`, function not 0 (R193) -/
  | cmd53RdClear (dir : Byte) (fn : BitVec 3) (bm inc : Bool) (cnt : BitVec 9) (crc : Byte)
  /-- row 7: read, function 2, any other address (R197) -/
  | bulkRd (dir : Byte) (bm inc : Bool) (addr : BitVec 17) (cnt : BitVec 9) (crc : Byte)
  /-- row 8: write, function 2, any other address (R198) -/
  | bulkWr (dir : Byte) (bm inc : Bool) (addr : BitVec 17) (cnt : BitVec 9) (crc : Byte)
  /-- row 9: `CMD53_RD`, every other read (R193) -/
  | cmd53Rd (dir : Byte) (fn : BitVec 3) (bm inc : Bool) (addr : BitVec 17) (cnt : BitVec 9) (crc : Byte)
  /-- row 10: `CMD53_WR`, every other write (R194) -/
  | cmd53Wr (dir : Byte) (fn : BitVec 3) (bm inc : Bool) (addr : BitVec 17) (cnt : BitVec 9) (crc : Byte)
  /-- event code 0 (R175) -/
  | windowStart
  /-- event code 1 (R176) -/
  | outByte (b : Byte)
  /-- event code 2 (R179) -/
  | inByte (b : Byte)
  /-- event code 3 (R180) -/
  | windowEnd
  /-- bit 0 of an interrupt-status value is set (R161) -/
  | irqBit0
  /-- bit 1 of an interrupt-status value is set (R161) -/
  | irqBit1
  /-- bit 2 of an interrupt-status value is set (R161) -/
  | irqBit2
  /-- bit 3 of an interrupt-status value is set (R161) -/
  | irqBit3
  /-- bit 4 of an interrupt-status value is set (R161) -/
  | irqBit4
  /-- bit 5 of an interrupt-status value is set (R161) -/
  | irqBit5
  /-- bit 6 of an interrupt-status value is set (R161) -/
  | irqBit6
  /-- bit 7 of an interrupt-status value is set (R161) -/
  | irqBit7
  /-- bit 8 of an interrupt-status value is set (R161) -/
  | irqBit8
  /-- bit 9 of an interrupt-status value is set (R161) -/
  | irqBit9
  /-- bit 10 of an interrupt-status value is set (R161) -/
  | irqBit10
  /-- bit 11 of an interrupt-status value is set (R161) -/
  | irqBit11
  /-- bit 12 of an interrupt-status value is set (R161) -/
  | irqBit12
  /-- bit 13 of an interrupt-status value is set (R161) -/
  | irqBit13
  /-- bit 15 of an interrupt-status value is set (R161) -/
  | irqBit15
  /-- bit 17 of an interrupt-status value is set (R161) -/
  | irqBit17
  /-- bit 18 of an interrupt-status value is set (R161) -/
  | irqBit18
  /-- bit 19 of an interrupt-status value is set (R161) -/
  | irqBit19
  /-- bit 20 of an interrupt-status value is set (R161) -/
  | irqBit20
  /-- bit 21 of an interrupt-status value is set (R161) -/
  | irqBit21
  /-- bit 22 of an interrupt-status value is set (R161) -/
  | irqBit22
  /-- bit 23 of an interrupt-status value is set (R161) -/
  | irqBit23
  /-- bit 24 of an interrupt-status value is set (R161) -/
  | irqBit24
  /-- bit 25 of an interrupt-status value is set (R161) -/
  | irqBit25
  /-- bit 26 of an interrupt-status value is set (R161) -/
  | irqBit26
  /-- bit 27 of an interrupt-status value is set (R161) -/
  | irqBit27
deriving DecidableEq, Repr

/-- The format of the opcode table's row that an instruction stands for. -/
inductive Format where
  | frame56
  | event10
  | pay32
deriving DecidableEq, Repr

end Sys2Proof
end

