-- ==== Sys2Proof/WellFormed.lean ====
section
/-! DEFINITION. Which instructions a configuration's encodings admit: the operand values that the priority order of the decode map leaves to each row (spec/30_encoding.md R102, R103). -/

namespace Sys2Proof

/-- `directionAndIndex` passes the command pattern (R84). -/
def dirOk (c : Config) (dir : Byte) : Bool := (dir &&& c.cmdMask) == c.cmdMatch

/-- The address is neither of the two interrupt addresses. -/
def plainAddr (c : Config) (addr : BitVec 17) : Bool := addr != c.irqStatusAddr && addr != c.irqClearAddr

/-- An instruction that a word of the opcode table encodes under configuration `c`. A frame's command byte passes
the pattern; rows 3 to 6 and 9, 10 are reached only with a function number other than 0 (rows 1 and 2 come first);
rows 7 to 10 only at an address that is not an interrupt address; rows 9 and 10 only with a function other than 2. A row of the
interrupt bit table is reached only where the configuration's mask defines its position (R96). -/
def WellFormed (c : Config) : Instr → Bool
  | .cardRd dir _ _ _ _ _ => dirOk c dir
  | .cardWr dir _ _ _ _ _ => dirOk c dir
  | .irqRd dir fn _ _ _ _ => dirOk c dir && fn != 0#3
  | .irqClr dir fn _ _ _ _ => dirOk c dir && fn != 0#3
  | .cmd53WrStatus dir fn _ _ _ _ => dirOk c dir && fn != 0#3
  | .cmd53RdClear dir fn _ _ _ _ => dirOk c dir && fn != 0#3
  | .bulkRd dir _ _ addr _ _ => dirOk c dir && plainAddr c addr
  | .bulkWr dir _ _ addr _ _ => dirOk c dir && plainAddr c addr
  | .cmd53Rd dir fn _ _ addr _ _ => dirOk c dir && fn != 0#3 && fn != 2#3 && plainAddr c addr
  | .cmd53Wr dir fn _ _ addr _ _ => dirOk c dir && fn != 0#3 && fn != 2#3 && plainAddr c addr
  | .windowStart => true
  | .outByte _ => true
  | .inByte _ => true
  | .windowEnd => true
  | .irqBit0 => c.irqDefinedMask.getLsbD 0
  | .irqBit1 => c.irqDefinedMask.getLsbD 1
  | .irqBit2 => c.irqDefinedMask.getLsbD 2
  | .irqBit3 => c.irqDefinedMask.getLsbD 3
  | .irqBit4 => c.irqDefinedMask.getLsbD 4
  | .irqBit5 => c.irqDefinedMask.getLsbD 5
  | .irqBit6 => c.irqDefinedMask.getLsbD 6
  | .irqBit7 => c.irqDefinedMask.getLsbD 7
  | .irqBit8 => c.irqDefinedMask.getLsbD 8
  | .irqBit9 => c.irqDefinedMask.getLsbD 9
  | .irqBit10 => c.irqDefinedMask.getLsbD 10
  | .irqBit11 => c.irqDefinedMask.getLsbD 11
  | .irqBit12 => c.irqDefinedMask.getLsbD 12
  | .irqBit13 => c.irqDefinedMask.getLsbD 13
  | .irqBit15 => c.irqDefinedMask.getLsbD 15
  | .irqBit17 => c.irqDefinedMask.getLsbD 17
  | .irqBit18 => c.irqDefinedMask.getLsbD 18
  | .irqBit19 => c.irqDefinedMask.getLsbD 19
  | .irqBit20 => c.irqDefinedMask.getLsbD 20
  | .irqBit21 => c.irqDefinedMask.getLsbD 21
  | .irqBit22 => c.irqDefinedMask.getLsbD 22
  | .irqBit23 => c.irqDefinedMask.getLsbD 23
  | .irqBit24 => c.irqDefinedMask.getLsbD 24
  | .irqBit25 => c.irqDefinedMask.getLsbD 25
  | .irqBit26 => c.irqDefinedMask.getLsbD 26
  | .irqBit27 => c.irqDefinedMask.getLsbD 27

end Sys2Proof
end

