-- ==== Sys2Proof/Decode.lean ====
section
/-! DEFINITION. The decoder, total on any word and rejecting by name, and after it the encoder, both written from the spec's tables (spec/30_encoding.md R81, R85, R99, R103; spec/opcode_table.json). -/

namespace Sys2Proof

/-- Why a word is no instruction. The first three are the spec's illegal frames (R104), the fourth a value whose set
bits are all reserved or that has none (R161: skipped silently), the last a defined bit for which the opcode table has
no row, which a configuration with another mask can have (log 20). -/
inductive DecodeReject where
  /-- fewer than seven outbound bytes -/
  | shortFrame
  /-- `startMarker` differs from `START_MARKER` -/
  | badMarker
  /-- `directionAndIndex` fails the command pattern -/
  | badCommand
  /-- no defined interrupt bit is set -/
  | noDefinedBit
  /-- the lowest defined set bit is at a position without a row -/
  | noRow (position : Nat)
deriving DecidableEq, Repr

/-! ### The fields of the frame word (R81, R85: the column "bits of `F`") -/

def frameDir (f : BitVec 56) : Byte := f.extractLsb' 40 8
def frameFunction (f : BitVec 56) : BitVec 3 := f.extractLsb' 36 3
def frameBlockMode (f : BitVec 56) : Bool := f.getLsbD 35
def frameIncrement (f : BitVec 56) : Bool := f.getLsbD 34
def frameAddress (f : BitVec 56) : BitVec 17 := f.extractLsb' 17 17
def frameCount (f : BitVec 56) : BitVec 9 := f.extractLsb' 8 9
def frameCrc (f : BitVec 56) : Byte := f.extractLsb' 0 8

/-- The frame word of the first seven outbound bytes, `out[0]` most significant (R81); later bytes are ignored
(R51, R62). -/
def frameWord : List Byte → Option (BitVec 56)
  | b0 :: b1 :: b2 :: b3 :: b4 :: b5 :: b6 :: _ => some (b0 ++ b1 ++ b2 ++ b3 ++ b4 ++ b5 ++ b6)
  | _ => none

/-- The seven bytes of a frame word in transfer order (R81). -/
def frameBytes (f : BitVec 56) : List Byte :=
  [f.extractLsb' 48 8, f.extractLsb' 40 8, f.extractLsb' 32 8, f.extractLsb' 24 8, f.extractLsb' 16 8,
   f.extractLsb' 8 8, f.extractLsb' 0 8]

/-! ### The decode map as mask and match pairs (R103) -/

/-- A row's mask on the frame word: the marker, the tested bits of the command byte, the row's argument bits. -/
def rowMask (c : Config) (argMask : BitVec 32) : BitVec 56 := 0xFF#8 ++ c.cmdMask ++ argMask ++ 0#8

/-- A row's match on the frame word. -/
def rowMatch (c : Config) (argMatch : BitVec 32) : BitVec 56 := c.startMarker ++ c.cmdMatch ++ argMatch ++ 0#8

/-- The argument bits of direction and function. -/
def argDirFn (isWrite : Bool) (fn : BitVec 3) : BitVec 32 := BitVec.ofBool isWrite ++ fn ++ 0#28

/-- The argument bits of direction and address. -/
def argDirAddr (isWrite : Bool) (addr : BitVec 17) : BitVec 32 := BitVec.ofBool isWrite ++ 0#5 ++ addr ++ 0#9

/-- One row of the decode map: `f` matches when `f & mask == match` (R103). -/
structure FrameRow where
  mask : BitVec 56
  pattern : BitVec 56
  build : BitVec 56 → Instr

def FrameRow.hits (r : FrameRow) (f : BitVec 56) : Bool := (f &&& r.mask) == r.pattern

/-- The ten rows in priority order (R103). -/
def frameRows (c : Config) : List FrameRow :=
  [{ mask := rowMask c (argDirFn true 7#3), pattern := rowMatch c (argDirFn false 0#3)
     build := fun f => .cardRd (frameDir f) (frameBlockMode f) (frameIncrement f) (frameAddress f) (frameCount f) (frameCrc f) },
   { mask := rowMask c (argDirFn true 7#3), pattern := rowMatch c (argDirFn true 0#3)
     build := fun f => .cardWr (frameDir f) (frameBlockMode f) (frameIncrement f) (frameAddress f) (frameCount f) (frameCrc f) },
   { mask := rowMask c (argDirAddr true 0x1FFFF#17), pattern := rowMatch c (argDirAddr false c.irqStatusAddr)
     build := fun f => .irqRd (frameDir f) (frameFunction f) (frameBlockMode f) (frameIncrement f) (frameCount f) (frameCrc f) },
   { mask := rowMask c (argDirAddr true 0x1FFFF#17), pattern := rowMatch c (argDirAddr true c.irqClearAddr)
     build := fun f => .irqClr (frameDir f) (frameFunction f) (frameBlockMode f) (frameIncrement f) (frameCount f) (frameCrc f) },
   { mask := rowMask c (argDirAddr true 0x1FFFF#17), pattern := rowMatch c (argDirAddr true c.irqStatusAddr)
     build := fun f => .cmd53WrStatus (frameDir f) (frameFunction f) (frameBlockMode f) (frameIncrement f) (frameCount f) (frameCrc f) },
   { mask := rowMask c (argDirAddr true 0x1FFFF#17), pattern := rowMatch c (argDirAddr false c.irqClearAddr)
     build := fun f => .cmd53RdClear (frameDir f) (frameFunction f) (frameBlockMode f) (frameIncrement f) (frameCount f) (frameCrc f) },
   { mask := rowMask c (argDirFn true 7#3), pattern := rowMatch c (argDirFn false 2#3)
     build := fun f => .bulkRd (frameDir f) (frameBlockMode f) (frameIncrement f) (frameAddress f) (frameCount f) (frameCrc f) },
   { mask := rowMask c (argDirFn true 7#3), pattern := rowMatch c (argDirFn true 2#3)
     build := fun f => .bulkWr (frameDir f) (frameBlockMode f) (frameIncrement f) (frameAddress f) (frameCount f) (frameCrc f) },
   { mask := rowMask c (argDirFn true 0#3), pattern := rowMatch c (argDirFn false 0#3)
     build := fun f => .cmd53Rd (frameDir f) (frameFunction f) (frameBlockMode f) (frameIncrement f) (frameAddress f) (frameCount f) (frameCrc f) },
   { mask := rowMask c (argDirFn true 0#3), pattern := rowMatch c (argDirFn true 0#3)
     build := fun f => .cmd53Wr (frameDir f) (frameFunction f) (frameBlockMode f) (frameIncrement f) (frameAddress f) (frameCount f) (frameCrc f) }]

/-! ### The decoder -/

/-- The frame word's instruction: the first row that matches (R103); a word no row matches is named by the first
check it fails, marker before command (R122, R248). -/
def decodeFrame (c : Config) (f : BitVec 56) : Except DecodeReject Instr :=
  match (frameRows c).find? (fun r => r.hits f) with
  | some r => .ok (r.build f)
  | none => .error (if f.extractLsb' 48 8 != c.startMarker then .badMarker else .badCommand)

/-- The event of an `EVENT10` word: all four codes are used, and the data bits of codes 0 and 3 are ignored (R99). -/
def decodeEvent (e : BitVec 10) : Instr :=
  match (e.extractLsb' 8 2).toNat with
  | 0 => .windowStart
  | 1 => .outByte (e.extractLsb' 0 8)
  | 2 => .inByte (e.extractLsb' 0 8)
  | _ => .windowEnd

/-- The rows of the interrupt bit table, ascending by position (R95). -/
def irqRows : List (Nat × Instr) :=
  [(0, .irqBit0),
   (1, .irqBit1),
   (2, .irqBit2),
   (3, .irqBit3),
   (4, .irqBit4),
   (5, .irqBit5),
   (6, .irqBit6),
   (7, .irqBit7),
   (8, .irqBit8),
   (9, .irqBit9),
   (10, .irqBit10),
   (11, .irqBit11),
   (12, .irqBit12),
   (13, .irqBit13),
   (15, .irqBit15),
   (17, .irqBit17),
   (18, .irqBit18),
   (19, .irqBit19),
   (20, .irqBit20),
   (21, .irqBit21),
   (22, .irqBit22),
   (23, .irqBit23),
   (24, .irqBit24),
   (25, .irqBit25),
   (26, .irqBit26),
   (27, .irqBit27)]

/-- A bit of an interrupt-status value that contributes: set and defined (R161). -/
def irqBitSet (c : Config) (p : BitVec 32) (n : Nat) : Bool := p.getLsbD n && c.irqDefinedMask.getLsbD n

/-- The lowest position that contributes (R161: ascending order). -/
def lowestIrqBit (c : Config) (p : BitVec 32) : Option Nat := (List.range 32).find? (irqBitSet c p)

/-- The row of the lowest position that contributes. Rows are not exclusive, every one that matches contributes
(spec/opcode_table.json): the others follow as the scan goes on. -/
def decodeIrq (c : Config) (p : BitVec 32) : Except DecodeReject Instr :=
  match lowestIrqBit c p with
  | none => .error .noDefinedBit
  | some n =>
    match irqRows.lookup n with
    | some i => .ok i
    | none => .error (.noRow n)

/-- The decoder. A `PAY32` value is read one row at a time, the lowest matching position first (R161). -/
def decode (c : Config) : CodeWord → Except DecodeReject Instr
  | .event10 e => .ok (decodeEvent e)
  | .frame out =>
    match frameWord out with
    | some f => decodeFrame c f
    | none => .error .shortFrame
  | .pay32 p => decodeIrq c p

/-! ### The encoder -/

/-- The frame word of the given fields (R81, R85). -/
def packFrame (c : Config) (dir : Byte) (isWrite : Bool) (fn : BitVec 3) (bm inc : Bool) (addr : BitVec 17)
    (cnt : BitVec 9) (crc : Byte) : BitVec 56 :=
  c.startMarker ++ dir ++ BitVec.ofBool isWrite ++ fn ++ BitVec.ofBool bm ++ BitVec.ofBool inc ++ addr ++ cnt ++ crc

/-- The seven bytes of the frame of the given fields. -/
def encodeFrame (c : Config) (dir : Byte) (isWrite : Bool) (fn : BitVec 3) (bm inc : Bool) (addr : BitVec 17)
    (cnt : BitVec 9) (crc : Byte) : CodeWord :=
  .frame (frameBytes (packFrame c dir isWrite fn bm inc addr cnt crc))

/-- An event word from its code and data (R99). -/
def packEvent (code : BitVec 2) (data : Byte) : BitVec 10 := code ++ data

/-- The encoder: the word of an instruction. The ignored data bits of `WINDOW_START` and `WINDOW_END` are written
as 0 (any value would do, U15). -/
def encode (c : Config) : Instr → CodeWord
  | .cardRd dir bm inc addr cnt crc => encodeFrame c dir false 0#3 bm inc addr cnt crc
  | .cardWr dir bm inc addr cnt crc => encodeFrame c dir true 0#3 bm inc addr cnt crc
  | .irqRd dir fn bm inc cnt crc => encodeFrame c dir false fn bm inc c.irqStatusAddr cnt crc
  | .irqClr dir fn bm inc cnt crc => encodeFrame c dir true fn bm inc c.irqClearAddr cnt crc
  | .cmd53WrStatus dir fn bm inc cnt crc => encodeFrame c dir true fn bm inc c.irqStatusAddr cnt crc
  | .cmd53RdClear dir fn bm inc cnt crc => encodeFrame c dir false fn bm inc c.irqClearAddr cnt crc
  | .bulkRd dir bm inc addr cnt crc => encodeFrame c dir false 2#3 bm inc addr cnt crc
  | .bulkWr dir bm inc addr cnt crc => encodeFrame c dir true 2#3 bm inc addr cnt crc
  | .cmd53Rd dir fn bm inc addr cnt crc => encodeFrame c dir false fn bm inc addr cnt crc
  | .cmd53Wr dir fn bm inc addr cnt crc => encodeFrame c dir true fn bm inc addr cnt crc
  | .windowStart => .event10 (packEvent 0#2 0#8)
  | .outByte b => .event10 (packEvent 1#2 b)
  | .inByte b => .event10 (packEvent 2#2 b)
  | .windowEnd => .event10 (packEvent 3#2 0#8)
  | .irqBit0 => .pay32 0x00000001#32
  | .irqBit1 => .pay32 0x00000002#32
  | .irqBit2 => .pay32 0x00000004#32
  | .irqBit3 => .pay32 0x00000008#32
  | .irqBit4 => .pay32 0x00000010#32
  | .irqBit5 => .pay32 0x00000020#32
  | .irqBit6 => .pay32 0x00000040#32
  | .irqBit7 => .pay32 0x00000080#32
  | .irqBit8 => .pay32 0x00000100#32
  | .irqBit9 => .pay32 0x00000200#32
  | .irqBit10 => .pay32 0x00000400#32
  | .irqBit11 => .pay32 0x00000800#32
  | .irqBit12 => .pay32 0x00001000#32
  | .irqBit13 => .pay32 0x00002000#32
  | .irqBit15 => .pay32 0x00008000#32
  | .irqBit17 => .pay32 0x00020000#32
  | .irqBit18 => .pay32 0x00040000#32
  | .irqBit19 => .pay32 0x00080000#32
  | .irqBit20 => .pay32 0x00100000#32
  | .irqBit21 => .pay32 0x00200000#32
  | .irqBit22 => .pay32 0x00400000#32
  | .irqBit23 => .pay32 0x00800000#32
  | .irqBit24 => .pay32 0x01000000#32
  | .irqBit25 => .pay32 0x02000000#32
  | .irqBit26 => .pay32 0x04000000#32
  | .irqBit27 => .pay32 0x08000000#32

/-- The format of the row an instruction stands for, read off its encoding. -/
def CodeWord.format : CodeWord → Format
  | .event10 _ => .event10
  | .frame _ => .frame56
  | .pay32 _ => .pay32

/-! ### The table's words (the host's interface) -/

/-- The word that a table row's `nbits` bits `w` stand for. The three formats have 10, 32 and 56 bits, so the number
of bits names the format (log 11); a row of the interrupt bit table may come with fewer than 32 bits, its high bits being 0.
A 56-bit frame is stored with its most significant byte first (R81). -/
def tableWord (nbits w : Nat) : Option CodeWord :=
  if nbits ≤ 8 then some (.pay32 (BitVec.ofNat 32 w))
  else if nbits ≤ 16 && w < 1024 then some (.event10 (BitVec.ofNat 10 w))
  else if nbits ≤ 32 then some (.pay32 (BitVec.ofNat 32 w))
  else if nbits ≤ 56 then some (.frame (frameBytes (BitVec.ofNat 56 w)))
  else none

/-- The instruction the decoder reads from a table row's bits, under the default configuration, which the table's
values are given for. -/
def decodeTableWord (nbits w : Nat) : Option Instr :=
  match tableWord nbits w with
  | some x => (decode Config.default x).toOption
  | none => none

end Sys2Proof
end

