-- ==== Sys2Proof/Machine/State.lean ====
section
/-! DEFINITION. The machine's state as plain data, its reset value, and the reasons a step can stop (spec/10_state.md R20 to R37; spec/70_reset_and_hazards.md R280, R290). -/

namespace Sys2Proof.Machine

/-- What the outside world may deliver to the parser. D0 feeds it "windows (or byte events)" (R66). -/
inductive Input where
  /-- one interface event, as its `EVENT10` word (R99) -/
  | event (e : BitVec 10)
  /-- one whole chip-select window: its outbound and its inbound byte sequence (R50, R171) -/
  | window (out inb : List Byte)
  /-- an interrupt-status value handed to the interrupt-status decoder, with the bit position from which its ascending
  scan goes on (R160, R161); position 0 begins a scan -/
  | irqScan (value : BitVec 32) (position : Nat)
  /-- reset, which is no interface event and has no encoding (R280) -/
  | reset
deriving DecidableEq, Repr

/-- The reasons a step ends in a fault. -/
inductive Fault where
  /-- Raised by `WINDOW_END` when `win = 1` and `st = Complete`, a combination the spec says cannot occur (R36 f, R180)
  and for which it gives no effect. Safe: no state that the machine reaches from reset has it, and the model stops. -/
  | windowEndInComplete
deriving DecidableEq, Repr

/-- The reasons a step is refused. The last five are the breaches of the interface contract, for which the spec asks
a model to refuse (R290, 93_implementation_defined.md U1). -/
inductive Refusal where
  /-- Raised by an arm of `exec` whose instruction has no meaning yet; no arm is left. Safe. -/
  | notModelled (mnemonic : String)
  /-- Raised by `WINDOW_START` while `win = 1`. Safe. -/
  | windowStartInWindow
  /-- Raised by `OUT_BYTE` while `win = 0`. Safe. -/
  | outByteOutsideWindow
  /-- Raised by `IN_BYTE` while `win = 0`. Safe. -/
  | inByteOutsideWindow
  /-- Raised by `WINDOW_END` while `win = 0`. Safe. -/
  | windowEndOutsideWindow
  /-- Raised by a whole window delivered while another one is open (`win = 1`). Safe. -/
  | windowInWindow
deriving DecidableEq, Repr

/-- The state of one parser instance (R39: all of it is per instance). The first nine fields are the spec's tuple
(R20); `cfg` is the configuration the spec makes a parameter of the step; the rest is the model's own. -/
structure State where
  /-- `st`, the state machine (R27) -/
  st : FsmState
  /-- `win`, 1 between `WINDOW_START` and `WINDOW_END` (R24) -/
  win : Bool
  /-- `ocnt`, outbound bytes seen in this window, saturating at 7 (R22) -/
  ocnt : BitVec 3
  /-- `obuf[0..6]`, the first seven outbound bytes of this window (R21) -/
  obuf : Vector Byte 7
  /-- `icnt`, inbound bytes seen in this window, saturating at `PAYLOAD_OFFSET + 4` (R23) -/
  icnt : BitVec 4
  /-- `ibuf[0..3]`, the inbound bytes at indices `PAYLOAD_OFFSET` to `PAYLOAD_OFFSET + 3` (R21) -/
  ibuf : Vector Byte 4
  /-- `rec_valid`, 1 when `record` belongs to the last completed window (R25) -/
  recValid : Bool
  /-- `rec` with its two labels, the output register (R25, R100) -/
  record : Transaction
  /-- `cause`, the error class of the last completed window (R26) -/
  cause : Cause
  /-- the configuration of this instance, written by nothing (R9, R20, R30; log 1) -/
  cfg : Config
  /-- MODEL's own: what the outside world has yet to deliver, next first (log 3) -/
  input : List Input
  /-- MODEL's own: index space `OUT`, the outbound bytes of the current window delivered so far (R33, R50; log 4) -/
  outSeq : List Byte
  /-- MODEL's own: index space `IN`, the inbound bytes of the current window delivered so far (R33, R50; log 4) -/
  inSeq : List Byte
  /-- MODEL's own: the positions the interrupt-status decoder has reported for the last value given to it (log 5) -/
  irqOut : List Nat
  /-- MODEL's own: how many draws of the free values of `Config` have been made (log 7) -/
  freeCount : Nat
deriving DecidableEq, Repr

/-- What `rec` holds at reset, where the spec leaves it unspecified (R37; DESIGN CHOICE, log 6, unsafe). -/
def State.unsetRecord : Transaction where
  argument := ⟨false, 0#3, false, false, 0#17, 0#9⟩
  functionLabel := none
  addressLabel := none
  category := .cardControl
  kind := .cardRd
  payload := none

/-- The machine right after reset (R37, R280): `st`, `win`, `ocnt`, `icnt`, `rec_valid` and `cause` as the spec
states them; `obuf`, `ibuf` and `rec` zero (DESIGN CHOICE, log 6, unsafe: the spec leaves them unspecified); the
default configuration (R9); nothing delivered yet. -/
def State.reset : State where
  st := .awaitingFrame
  win := false
  ocnt := 0#3
  obuf := #v[0#8, 0#8, 0#8, 0#8, 0#8, 0#8, 0#8]
  icnt := 0#4
  ibuf := #v[0#8, 0#8, 0#8, 0#8]
  recValid := false
  record := State.unsetRecord
  cause := .none
  cfg := Config.default
  input := []
  outSeq := []
  inSeq := []
  irqOut := []
  freeCount := 0

end Sys2Proof.Machine
end

