-- ==== Sys2Proof/Machine/Operands.lean ====
section
/-! DEFINITION. The bit-field codec: every form in which the parser reads an operand out of bytes, and the inverse packings (spec/40_codec.md R121 to R127; spec/20_memory.md R57, R58; spec/30_encoding.md R83). -/

namespace Sys2Proof.Machine

/-- `MemRead(space, i, n)`: bytes `i` to `i + n - 1` of a window's sequence, defined only when they all exist (R14). -/
def memRead (space : List Byte) (i n : Nat) : Option (List Byte) :=
  if i + n ≤ space.length then some ((space.drop i).take n) else none

/-- `SPLIT_FRAME` (R121). -/
def splitFrame (f : Vector Byte 7) : FrameParts where
  startMarker := f[0]
  directionAndIndex := f[1]
  argBytes := ⟨f[2], f[3], f[4], f[5]⟩
  crcByte := f[6]
  commandWord := f[1] ++ f[2] ++ f[3] ++ f[4] ++ f[5] ++ f[6]

/-- `FRAME_CHECK` (R122): the marker is tested before the command pattern. -/
def frameCheck (c : Config) (startMarker directionAndIndex : Byte) : FrameCheck :=
  if startMarker ≠ c.startMarker then .badMarker
  else if directionAndIndex &&& c.cmdMask ≠ c.cmdMatch then .badCommand
  else .ok

/-- The 32-bit argument `A` of its four bytes, the first one most significant (R57, R87). -/
def argumentWord (b : Bytes4) : BitVec 32 :=
  (b.b0.setWidth 32 <<< 24) ||| (b.b1.setWidth 32 <<< 16) ||| (b.b2.setWidth 32 <<< 8) ||| b.b3.setWidth 32

/-- The six fields of the argument `A` (R85). -/
def argumentFields (a : BitVec 32) : Argument where
  isWrite := a.getLsbD 31
  function := a.extractLsb' 28 3
  blockMode := a.getLsbD 27
  incrementAddressing := a.getLsbD 26
  address := a.extractLsb' 9 17
  count := a.extractLsb' 0 9

/-- `DECODE_ARGUMENT` (R123). -/
def decodeArgument (b : Bytes4) : Argument := argumentFields (argumentWord b)

/-- The argument `A` that holds the six fields, each in its place (R124). -/
def packArgument (t : Argument) : BitVec 32 :=
  ((BitVec.ofBool t.isWrite).setWidth 32 <<< 31) ||| (t.function.setWidth 32 <<< 28)
    ||| ((BitVec.ofBool t.blockMode).setWidth 32 <<< 27)
    ||| ((BitVec.ofBool t.incrementAddressing).setWidth 32 <<< 26)
    ||| (t.address.setWidth 32 <<< 9) ||| t.count.setWidth 32

/-- The four bytes of an argument, most significant first (R57). -/
def argumentBytes (a : BitVec 32) : Bytes4 :=
  ⟨a.extractLsb' 24 8, a.extractLsb' 16 8, a.extractLsb' 8 8, a.extractLsb' 0 8⟩

/-- `ENCODE_ARGUMENT` (R124). -/
def encodeArgument (t : Argument) : Bytes4 := argumentBytes (packArgument t)

/-- `DECODE_PAYLOAD` (R126): little-endian, the reverse of the argument's order (R58). -/
def decodePayload (b : Bytes4) : BitVec 32 :=
  b.b0.setWidth 32 ||| (b.b1.setWidth 32 <<< 8) ||| (b.b2.setWidth 32 <<< 16) ||| (b.b3.setWidth 32 <<< 24)

/-- `ENCODE_PAYLOAD` (R127). -/
def encodePayload (p : BitVec 32) : Bytes4 :=
  ⟨p.extractLsb' 0 8, p.extractLsb' 8 8, p.extractLsb' 16 8, p.extractLsb' 24 8⟩

/-- Four bytes read from a sequence, as an operand. -/
def bytes4? : List Byte → Option Bytes4
  | [b0, b1, b2, b3] => some ⟨b0, b1, b2, b3⟩
  | _ => none

/-- The payload of a window's inbound sequence: `DECODE_PAYLOAD(MemRead(IN, PAYLOAD_OFFSET, 4))`, absent when the
sequence is too short (R52, R171, R174). -/
def payloadOf (c : Config) (inSeq : List Byte) : Option (BitVec 32) :=
  ((memRead inSeq c.payloadOffset.val payloadLen).bind bytes4?).map decodePayload

/-- The argument bytes in `obuf[2..5]` (R21). -/
def obufArgument (v : Vector Byte 7) : Bytes4 := (splitFrame v).argBytes

/-- The payload bytes in `ibuf[0..3]` (R21). -/
def ibufPayload (v : Vector Byte 4) : Bytes4 := ⟨v[0], v[1], v[2], v[3]⟩

end Sys2Proof.Machine
end

