-- ==== Sys2Proof/Machine/Classifier.lean ====
section
/-! DEFINITION. The address/function classifier, pure functions of the operands and the configuration (spec/41_classifier.md R140 to R149). -/

namespace Sys2Proof.Machine

/-- `CLASSIFY` (R141): function 0, then the two interrupt addresses, then function 2, then the rest. -/
def classify (c : Config) (function : BitVec 3) (address : BitVec 17) : Category :=
  if function = 0#3 then .cardControl
  else if address = c.irqStatusAddr ∨ address = c.irqClearAddr then .registerControl
  else if function = 2#3 then .bulkData
  else .registerControl

/-- `IRQ_KIND` (R144; D4). -/
def irqKind (c : Config) (function : BitVec 3) (address : BitVec 17) (isWrite : Bool) : IrqKind :=
  if function = 0#3 then .none
  else if address = c.irqStatusAddr ∧ isWrite = false then .irqRead
  else if address = c.irqClearAddr ∧ isWrite = true then .irqClear
  else .none

/-- `TXN_KIND` (R146). -/
def txnKind (c : Config) (function : BitVec 3) (address : BitVec 17) (isWrite : Bool) : Kind :=
  if classify c function address = .cardControl then (if isWrite then .cardWr else .cardRd)
  else if irqKind c function address isWrite = .irqRead then .irqRd
  else if irqKind c function address isWrite = .irqClear then .irqClr
  else if classify c function address = .bulkData then (if isWrite then .bulkWr else .bulkRd)
  else (if isWrite then .cmd53Wr else .cmd53Rd)

/-- `FUNCTION_LABEL`: a lookup in `FUNC_LABEL` that may find nothing and cannot fail (R56, R147). -/
def functionLabel (c : Config) (function : BitVec 3) : Option String := c.funcLabel.lookup function

/-- `ADDRESS_LABEL`: a lookup by address alone (R147). -/
def addressLabel (c : Config) (address : BitVec 17) : Option String := c.addrLabel.lookup address

/-- `DISPLAY_SIZE` in bytes, 18 bits wide (R149): the count times `BLOCK_SIZE` in block mode, which is a left shift by
9 at the one size R10 admits. -/
def displaySize (c : Config) (blockMode : Bool) (count : BitVec 9) : BitVec 18 :=
  if blockMode then BitVec.ofNat 18 (count.toNat * c.blockSize) else count.setWidth 18

end Sys2Proof.Machine

namespace Sys2Proof

/-- The category of a kind (the table of R101). -/
def Kind.category : Kind → Category
  | .cardRd | .cardWr => .cardControl
  | .cmd53Rd | .cmd53Wr | .irqRd | .irqClr => .registerControl
  | .bulkRd | .bulkWr => .bulkData

/-- The interrupt recognition of a kind (the table of R101). -/
def Kind.irq : Kind → IrqKind
  | .irqRd => .irqRead
  | .irqClr => .irqClear
  | .cardRd | .cardWr | .cmd53Rd | .cmd53Wr | .bulkRd | .bulkWr => .none

/-- The direction of a kind (the table of R101), which is bit 0 of its code. -/
def Kind.isWrite : Kind → Bool
  | .cardWr | .cmd53Wr | .irqClr | .bulkWr => true
  | .cardRd | .cmd53Rd | .irqRd | .bulkRd => false

end Sys2Proof
end

