-- ==== Sys2Proof/Machine/IrqDecoder.lean ====
section
/-! DEFINITION. The interrupt-status decoder, pure functions of a value and the configuration (spec/42_irq_decoder.md R160 to R164). -/

namespace Sys2Proof.Machine

/-- `IRQ_NAME(n)`: a lookup that may find nothing and cannot fail (R56, R95). -/
def irqNameAt (c : Config) (n : Nat) : Option String := c.irqName.lookup n

/-- `ACTIVE_MASK` (R162). -/
def activeMask (c : Config) (value : BitVec 32) : BitVec 32 := value &&& c.irqDefinedMask

/-- The positions `DECODE_IRQ_BITS` visits and keeps, 0 to 31 ascending: set in the value and defined (R161). -/
def irqPositions (c : Config) (value : BitVec 32) : List Nat := (List.range 32).filter (irqBitSet c value)

/-- `DECODE_IRQ_BITS`: the names of the kept positions, in ascending order (R161). -/
def decodeIrqBits (c : Config) (value : BitVec 32) : List String := (irqPositions c value).filterMap (irqNameAt c)

/-- The part of an interrupt-status value that a scan at `position` has still to visit (R161: ascending order). -/
def irqRemaining (value : BitVec 32) (position : Nat) : BitVec 32 := (value >>> position) <<< position

/-- The payload fields of a record for a payload `P` (R181). -/
def irqPayload (c : Config) (p : BitVec 32) : IrqPayload := ⟨p, activeMask c p⟩

/-- `activeInterruptNames` of a payload: the names of the set bits of its active mask, ascending (R100, R162). -/
def activeInterruptNames (c : Config) (p : IrqPayload) : List String := decodeIrqBits c p.activeMask

end Sys2Proof.Machine
end

