-- ==== Sys2Proof/Machine/Flags.lean ====
section
/-! DEFINITION. The single-bit status values, the notes and the codes of the enumerated registers, and the record as a 102-bit word (spec/10_state.md R27, R29; spec/30_encoding.md R100, R101; spec/60_exceptions.md R241, R245). -/

namespace Sys2Proof

/-- The 3-bit code of `st` (R27). -/
def FsmState.code : FsmState → BitVec 3
  | .awaitingFrame => 0#3
  | .frameRecognized => 1#3
  | .payloadPending => 2#3
  | .complete => 3#3
  | .rejected => 4#3

/-- The 3-bit code of `cause` (R26, R241). -/
def Cause.code : Cause → BitVec 3
  | .none => 0#3
  | .malformedShort => 1#3
  | .malformedMarker => 2#3
  | .malformedCommand => 3#3
  | .truncatedPayload => 4#3

/-- The causes that are `MalformedFrame` (R241). -/
def Cause.isMalformed : Cause → Bool
  | .malformedShort | .malformedMarker | .malformedCommand => true
  | .none | .truncatedPayload => false

/-- The 2-bit code of a category (R100). -/
def Category.code : Category → BitVec 2
  | .cardControl => 0#2
  | .registerControl => 1#2
  | .bulkData => 2#2

/-- The 3-bit code of a kind (R101). -/
def Kind.code : Kind → BitVec 3
  | .cardRd => 0#3
  | .cardWr => 1#3
  | .cmd53Rd => 2#3
  | .cmd53Wr => 3#3
  | .irqRd => 4#3
  | .irqClr => 5#3
  | .bulkRd => 6#3
  | .bulkWr => 7#3

/-- The cause `FRAME_CHECK` leads to (R241): marker 2, command 3. -/
def FrameCheck.cause : FrameCheck → Cause
  | .ok => .none
  | .badMarker => .malformedMarker
  | .badCommand => .malformedCommand

end Sys2Proof

namespace Sys2Proof.Machine

/-- `payload_present` of a record (R29, R100). -/
def payloadPresent (r : Transaction) : Bool := r.payload.isSome

/-- The note `UnknownFunction`: the function has no label (R245). -/
def unknownFunction (r : Transaction) : Bool := r.functionLabel.isNone

/-- The note `UnknownAddress`: the address has no label (R245). -/
def unknownAddress (r : Transaction) : Bool := r.addressLabel.isNone

/-- `rec[37:0]` of a record, the bits the spec fixes for every record (R100). -/
def recLow (r : Transaction) : BitVec 38 :=
  BitVec.ofBool (payloadPresent r) ++ r.kind.code ++ r.category.code ++ packArgument r.argument

/-- `rec` as the 102-bit word `REC102` (R100). Bits 101 to 38 are unspecified while no payload is present (U4): the
argument `absent` stands for them and nothing constrains it. -/
def recWord (absent : BitVec 64) (r : Transaction) : BitVec 102 :=
  (match r.payload with
    | some p => p.activeMask ++ p.decodedPayload
    | none => absent) ++ recLow r

/-- The class recorded when the decoder rejects a window's outbound bytes (R241, R248). -/
def rejectCause : DecodeReject → Cause
  | .shortFrame => .malformedShort
  | .badMarker => .malformedMarker
  | .badCommand => .malformedCommand
  | .noDefinedBit => .none
  | .noRow _ => .none

end Sys2Proof.Machine
end

