-- ==== Sys2Proof/Machine/Ops.lean ====
section
/-! DEFINITION. The named operations over the registers: opening a window, capturing bytes, evaluating the frame, taking the one exception the spec describes and leaving it, assembling and emitting the record, and the same for a window delivered whole (spec/43_assembler.md R171 to R182; spec/60_exceptions.md R250, R251; spec/70_reset_and_hazards.md R280). -/

namespace Sys2Proof.Machine

/-- A step that goes on. -/
abbrev Result := Host.Outcome State Fault Refusal

/-! ### Opening a window -/

/-- The effect of `WINDOW_START` (R175): the state machine, the counters and the outputs start afresh; buffers and
`rec` keep what they hold. It is also how the machine leaves `Rejected`, the return from its exception (R251). The
delivered sequences of the new window are empty. -/
def State.openWindow (s : State) : State :=
  { s with
    st := .awaitingFrame
    win := true
    ocnt := 0#3
    icnt := 0#4
    recValid := false
    cause := .none
    outSeq := []
    inSeq := [] }

/-! ### Taking an exception -/

/-- The entry into `Rejected` (R250, R177): nothing is saved, nothing else changes. -/
def State.enterRejected (s : State) : State := { s with st := .rejected }

/-- The end of a window that is `MalformedFrame`: `Rejected`, no record, and the class recorded (R180, R243, R250). -/
def State.takeMalformed (s : State) (why : Cause) : State :=
  { s.enterRejected with win := false, recValid := false, cause := why }

/-! ### Capturing bytes -/

/-- Store bytes into a buffer from index `i` on; bytes past its end go nowhere (R51, R52). -/
def fillFrom {n : Nat} (v : Vector Byte n) (i : Nat) : List Byte → Vector Byte n
  | [] => v
  | b :: bs => fillFrom (v.setIfInBounds i b) (i + 1) bs

/-- The state of the state machine that a complete frame in `obuf` leads to (R177). -/
def frameState (c : Config) (v : Vector Byte 7) : FsmState :=
  match frameCheck c (splitFrame v).startMarker (splitFrame v).directionAndIndex with
  | .badMarker => .rejected
  | .badCommand => .rejected
  | .ok =>
    let t := decodeArgument (obufArgument v)
    if irqKind c t.function t.address t.isWrite = .none then .frameRecognized else .payloadPending

/-- The frame evaluation of R177. -/
def State.evaluateFrame (s : State) : State :=
  match frameState s.cfg s.obuf with
  | .rejected => s.enterRejected
  | other => { s with st := other }

/-- The capture of one outbound byte (R176): stored while fewer than seven have been seen, the seventh evaluating the
frame; later ones change no register. -/
def State.captureOut (s : State) (b : Byte) : State :=
  if s.ocnt.toNat < frameLen then
    let t := { s with obuf := s.obuf.setIfInBounds s.ocnt.toNat b, ocnt := s.ocnt + 1#3 }
    if t.ocnt.toNat = frameLen then t.evaluateFrame else t
  else s

/-- The capture of one inbound byte (R179): stored at the four payload indices, counted up to saturation. -/
def State.captureIn (s : State) (b : Byte) : State :=
  { s with
    ibuf :=
      if s.cfg.payloadOffset.val ≤ s.icnt.toNat ∧ s.icnt.toNat < s.cfg.payloadEnd then
        s.ibuf.setIfInBounds (s.icnt.toNat - s.cfg.payloadOffset.val) b
      else s.ibuf
    icnt := if s.icnt.toNat < s.cfg.payloadEnd then s.icnt + 1#4 else s.icnt }

/-- An outbound byte of the open window: captured, and counted as delivered in the space `OUT` (R50, R176). -/
def State.receiveOut (s : State) (b : Byte) : State :=
  { s.captureOut b with outSeq := s.outSeq ++ [b] }

/-- An inbound byte of the open window: captured, and counted as delivered in the space `IN` (R50, R179). -/
def State.receiveIn (s : State) (b : Byte) : State :=
  { s.captureIn b with inSeq := s.inSeq ++ [b] }

/-! ### Assembling and emitting the record -/

/-- A record of the given argument (R181): the argument unchanged, the two label lookups, and what is given. -/
def mkRecord (c : Config) (t : Argument) (category : Category) (kind : Kind) (payload : Option IrqPayload) :
    Transaction where
  argument := t
  functionLabel := functionLabel c t.function
  addressLabel := addressLabel c t.address
  category := category
  kind := kind
  payload := payload

/-- The record of an argument with the category and kind that the classifier gives it (R181). -/
def classifiedRecord (c : Config) (t : Argument) (payload : Option IrqPayload) : Transaction :=
  mkRecord c t (classify c t.function t.address) (txnKind c t.function t.address t.isWrite) payload

/-- The payload fields at `WINDOW_END` (R181): only for an IRQ kind and only when all four bytes have been captured. -/
def State.capturedPayload (s : State) : Option IrqPayload :=
  if s.st = .payloadPending ∧ s.icnt.toNat = s.cfg.payloadEnd then
    some (irqPayload s.cfg (decodePayload (ibufPayload s.ibuf)))
  else none

/-- `emit(rec)` at the end of a recognised window (R180, R182). -/
def State.emit (s : State) (r : Transaction) (why : Cause) : State :=
  { s with st := .complete, win := false, record := r, recValid := true, cause := why }

/-- The effect of `WINDOW_END` on an open window (R180). -/
def State.closeWindow (s : State) : Result :=
  match s.st with
  | .awaitingFrame => .next (s.takeMalformed .malformedShort)
  | .rejected =>
    .next (s.takeMalformed
      (if (splitFrame s.obuf).startMarker ≠ s.cfg.startMarker then .malformedMarker else .malformedCommand))
  | .frameRecognized =>
    .next (s.emit (classifiedRecord s.cfg (decodeArgument (obufArgument s.obuf)) s.capturedPayload) .none)
  | .payloadPending =>
    .next (s.emit (classifiedRecord s.cfg (decodeArgument (obufArgument s.obuf)) s.capturedPayload)
      (if s.icnt.toNat = s.cfg.payloadEnd then .none else .truncatedPayload))
  | .complete => .fault .windowEndInComplete

/-! ### A window delivered whole (R50, R171) -/

/-- The window's two byte sequences are there (R50); the registers have not moved. -/
def State.loadWindow (s : State) (out inb : List Byte) : State := { s with outSeq := out, inSeq := inb }

/-- The counter and the buffer of the outbound channel after the whole sequence `OUT` (R22, R36 b). -/
def State.absorbOut (s : State) : State :=
  { s with
    ocnt := BitVec.ofNat 3 (min frameLen s.outSeq.length)
    obuf := fillFrom s.obuf 0 s.outSeq }

/-- The counter and the buffer of the inbound channel after the whole sequence `IN` (R23, R36 c). -/
def State.absorbIn (s : State) : State :=
  { s with
    icnt := BitVec.ofNat 4 (min s.cfg.payloadEnd s.inSeq.length)
    ibuf := fillFrom s.ibuf 0 (s.inSeq.drop s.cfg.payloadOffset.val) }

/-- The seven bytes of a frame in `obuf` (R21): marker, command byte, the four argument bytes, CRC byte. -/
def frameBuffer (c : Config) (dir : Byte) (t : Argument) (crc : Byte) : Vector Byte 7 :=
  #v[c.startMarker, dir, (encodeArgument t).b0, (encodeArgument t).b1, (encodeArgument t).b2, (encodeArgument t).b3, crc]

/-- The payload fields and the class of a recognised window, from its inbound sequence (R171, R174): for an IRQ kind
both fields or, when the sequence is too short, neither and `TruncatedPayload`; for any other kind neither and
nothing to report. -/
def windowPayload (c : Config) (irq : IrqKind) (inSeq : List Byte) : Option IrqPayload × Cause :=
  if irq = .none then (none, .none)
  else
    match payloadOf c inSeq with
    | some p => (some (irqPayload c p), .none)
    | none => (none, .truncatedPayload)

/-- A whole window whose outbound sequence begins with the frame of the given fields: it is recognised, its record is
assembled and emitted (R171, R191 to R198). Like `WINDOW_START`, it needs `win = 0` (R290). -/
def State.runFrame (s : State) (dir : Byte) (t : Argument) (crc : Byte) (category : Category) (kind : Kind)
    (irq : IrqKind) : Result :=
  if s.win then .refused .windowInWindow
  else
    let s1 := { s.absorbIn with ocnt := 7#3, obuf := frameBuffer s.cfg dir t crc }
    let pc := windowPayload s.cfg irq s.inSeq
    .next (s1.emit (mkRecord s.cfg t category kind pc.1) pc.2)

/-- A whole window that the decoder rejects (R172, R173): the bytes are captured as they would be one by one, and the
window ends in `Rejected`. -/
def State.rejectWindow (s : State) (why : Cause) : State := s.absorbOut.absorbIn.takeMalformed why

/-! ### The decoder's report and reset -/

/-- One iteration of `DECODE_IRQ_BITS` that keeps its position (R161): it is appended to what has been reported. -/
def State.reportIrq (s : State) (position : Nat) : State := { s with irqOut := s.irqOut ++ [position] }

/-- Reset (R37, R280, R281): the six registers at their reset values, the buffers and `rec` unspecified (each a free
value, log 7), the window under way abandoned. The configuration stays (R30). -/
def State.resetRegisters (s : State) : State :=
  let k := s.freeCount
  { s with
    st := .awaitingFrame
    win := false
    ocnt := 0#3
    obuf := #v[Config.freeByte k, Config.freeByte (k + 1), Config.freeByte (k + 2), Config.freeByte (k + 3),
      Config.freeByte (k + 4), Config.freeByte (k + 5), Config.freeByte (k + 6)]
    icnt := 0#4
    ibuf := #v[Config.freeByte (k + 7), Config.freeByte (k + 8), Config.freeByte (k + 9), Config.freeByte (k + 10)]
    recValid := false
    record := Config.freeTransaction k
    cause := .none
    outSeq := []
    inSeq := []
    freeCount := k + 11 }

end Sys2Proof.Machine
end

