-- ==== Sys2Proof/Machine/Events.lean ====
section
/-! DEFINITION. The meanings of the four interface events (spec/43_assembler.md R175, R176, R179, R180). An event that breaks the interface contract has no step (spec/70_reset_and_hazards.md R290; 93_implementation_defined.md U1). -/

namespace Sys2Proof.Machine

/-- `WINDOW_START` (R175), with `win == 0` (R290). -/
def execWindowStart (s : State) : Result :=
  if s.win then .refused .windowStartInWindow else .next s.openWindow

/-- `OUT_BYTE(b)` (R176), with `win == 1` (R290). -/
def execOutByte (b : Byte) (s : State) : Result :=
  if s.win then .next (s.receiveOut b) else .refused .outByteOutsideWindow

/-- `IN_BYTE(b)` (R179), with `win == 1` (R290). -/
def execInByte (b : Byte) (s : State) : Result :=
  if s.win then .next (s.receiveIn b) else .refused .inByteOutsideWindow

/-- `WINDOW_END` (R180), with `win == 1` (R290). -/
def execWindowEnd (s : State) : Result :=
  if s.win then s.closeWindow else .refused .windowEndOutsideWindow

end Sys2Proof.Machine
end

