-- ==== Sys2Proof/Machine/Frames.lean ====
section
/-! DEFINITION. The meanings of the ten frame rows: what a whole window that begins with such a frame does (spec/43_assembler.md R171, R191 to R198). Each names its own category, kind and interrupt recognition. -/

namespace Sys2Proof.Machine

/-- `CARD_RD` (R191). -/
def execCardRd (dir : Byte) (bm inc : Bool) (addr : BitVec 17) (cnt : BitVec 9) (crc : Byte) (s : State) : Result :=
  s.runFrame dir ⟨false, 0#3, bm, inc, addr, cnt⟩ crc .cardControl .cardRd .none

/-- `CARD_WR` (R192). -/
def execCardWr (dir : Byte) (bm inc : Bool) (addr : BitVec 17) (cnt : BitVec 9) (crc : Byte) (s : State) : Result :=
  s.runFrame dir ⟨true, 0#3, bm, inc, addr, cnt⟩ crc .cardControl .cardWr .none

/-- `IRQ_RD` (R195): a read of the interrupt-status address, its payload in the inbound sequence. -/
def execIrqRd (dir : Byte) (fn : BitVec 3) (bm inc : Bool) (cnt : BitVec 9) (crc : Byte) (s : State) : Result :=
  s.runFrame dir ⟨false, fn, bm, inc, s.cfg.irqStatusAddr, cnt⟩ crc .registerControl .irqRd .irqRead

/-- `IRQ_CLR` (R196): a write to the interrupt-clear address; its payload too is taken from the inbound sequence (D5). -/
def execIrqClr (dir : Byte) (fn : BitVec 3) (bm inc : Bool) (cnt : BitVec 9) (crc : Byte) (s : State) : Result :=
  s.runFrame dir ⟨true, fn, bm, inc, s.cfg.irqClearAddr, cnt⟩ crc .registerControl .irqClr .irqClear

/-- `CMD53_WR` to the interrupt-status address (R194): no payload. -/
def execCmd53WrStatus (dir : Byte) (fn : BitVec 3) (bm inc : Bool) (cnt : BitVec 9) (crc : Byte) (s : State) : Result :=
  s.runFrame dir ⟨true, fn, bm, inc, s.cfg.irqStatusAddr, cnt⟩ crc .registerControl .cmd53Wr .none

/-- `CMD53_RD` of the interrupt-clear address (R193): no payload. -/
def execCmd53RdClear (dir : Byte) (fn : BitVec 3) (bm inc : Bool) (cnt : BitVec 9) (crc : Byte) (s : State) : Result :=
  s.runFrame dir ⟨false, fn, bm, inc, s.cfg.irqClearAddr, cnt⟩ crc .registerControl .cmd53Rd .none

/-- `BULK_RD` (R197). -/
def execBulkRd (dir : Byte) (bm inc : Bool) (addr : BitVec 17) (cnt : BitVec 9) (crc : Byte) (s : State) : Result :=
  s.runFrame dir ⟨false, 2#3, bm, inc, addr, cnt⟩ crc .bulkData .bulkRd .none

/-- `BULK_WR` (R198). -/
def execBulkWr (dir : Byte) (bm inc : Bool) (addr : BitVec 17) (cnt : BitVec 9) (crc : Byte) (s : State) : Result :=
  s.runFrame dir ⟨true, 2#3, bm, inc, addr, cnt⟩ crc .bulkData .bulkWr .none

/-- `CMD53_RD` at any other address (R193). -/
def execCmd53Rd (dir : Byte) (fn : BitVec 3) (bm inc : Bool) (addr : BitVec 17) (cnt : BitVec 9) (crc : Byte)
    (s : State) : Result :=
  s.runFrame dir ⟨false, fn, bm, inc, addr, cnt⟩ crc .registerControl .cmd53Rd .none

/-- `CMD53_WR` at any other address (R194). -/
def execCmd53Wr (dir : Byte) (fn : BitVec 3) (bm inc : Bool) (addr : BitVec 17) (cnt : BitVec 9) (crc : Byte)
    (s : State) : Result :=
  s.runFrame dir ⟨true, fn, bm, inc, addr, cnt⟩ crc .registerControl .cmd53Wr .none

end Sys2Proof.Machine
end

