-- ==== Sys2Proof/Machine/IrqBits.lean ====
section
/-! DEFINITION. The meanings of the 26 rows of the interrupt bit table: a set defined bit of an interrupt-status value contributes its position, which stands for its name (spec/42_irq_decoder.md R161; spec/30_encoding.md R95; 92_eei_decisions.md D18). -/

namespace Sys2Proof.Machine

/-- `IRQ_BIT_0` (R161). -/
def execIrqBit0 (s : State) : Result := .next (s.reportIrq 0)

/-- `IRQ_BIT_1` (R161). -/
def execIrqBit1 (s : State) : Result := .next (s.reportIrq 1)

/-- `IRQ_BIT_2` (R161). -/
def execIrqBit2 (s : State) : Result := .next (s.reportIrq 2)

/-- `IRQ_BIT_3` (R161). -/
def execIrqBit3 (s : State) : Result := .next (s.reportIrq 3)

/-- `IRQ_BIT_4` (R161). -/
def execIrqBit4 (s : State) : Result := .next (s.reportIrq 4)

/-- `IRQ_BIT_5` (R161). -/
def execIrqBit5 (s : State) : Result := .next (s.reportIrq 5)

/-- `IRQ_BIT_6` (R161). -/
def execIrqBit6 (s : State) : Result := .next (s.reportIrq 6)

/-- `IRQ_BIT_7` (R161). -/
def execIrqBit7 (s : State) : Result := .next (s.reportIrq 7)

/-- `IRQ_BIT_8` (R161). -/
def execIrqBit8 (s : State) : Result := .next (s.reportIrq 8)

/-- `IRQ_BIT_9` (R161). -/
def execIrqBit9 (s : State) : Result := .next (s.reportIrq 9)

/-- `IRQ_BIT_10` (R161). -/
def execIrqBit10 (s : State) : Result := .next (s.reportIrq 10)

/-- `IRQ_BIT_11` (R161). -/
def execIrqBit11 (s : State) : Result := .next (s.reportIrq 11)

/-- `IRQ_BIT_12` (R161). -/
def execIrqBit12 (s : State) : Result := .next (s.reportIrq 12)

/-- `IRQ_BIT_13` (R161). -/
def execIrqBit13 (s : State) : Result := .next (s.reportIrq 13)

/-- `IRQ_BIT_15` (R161). -/
def execIrqBit15 (s : State) : Result := .next (s.reportIrq 15)

/-- `IRQ_BIT_17` (R161). -/
def execIrqBit17 (s : State) : Result := .next (s.reportIrq 17)

/-- `IRQ_BIT_18` (R161). -/
def execIrqBit18 (s : State) : Result := .next (s.reportIrq 18)

/-- `IRQ_BIT_19` (R161). -/
def execIrqBit19 (s : State) : Result := .next (s.reportIrq 19)

/-- `IRQ_BIT_20` (R161). -/
def execIrqBit20 (s : State) : Result := .next (s.reportIrq 20)

/-- `IRQ_BIT_21` (R161). -/
def execIrqBit21 (s : State) : Result := .next (s.reportIrq 21)

/-- `IRQ_BIT_22` (R161). -/
def execIrqBit22 (s : State) : Result := .next (s.reportIrq 22)

/-- `IRQ_BIT_23` (R161). -/
def execIrqBit23 (s : State) : Result := .next (s.reportIrq 23)

/-- `IRQ_BIT_24` (R161). -/
def execIrqBit24 (s : State) : Result := .next (s.reportIrq 24)

/-- `IRQ_BIT_25` (R161). -/
def execIrqBit25 (s : State) : Result := .next (s.reportIrq 25)

/-- `IRQ_BIT_26` (R161). -/
def execIrqBit26 (s : State) : Result := .next (s.reportIrq 26)

/-- `IRQ_BIT_27` (R161). -/
def execIrqBit27 (s : State) : Result := .next (s.reportIrq 27)

end Sys2Proof.Machine
end

