-- ==== Sys2Proof/Machine/Dispatch.lean ====
section
/-! DEFINITION. The dispatch of the instructions to their meanings, one arm for each constructor of Instr. -/

namespace Sys2Proof.Machine

def exec (i : Instr) (s : State) : Host.Outcome State Fault Refusal :=
  match i with
  | .cardRd dir bm inc addr cnt crc => Sys2Proof.Machine.execCardRd dir bm inc addr cnt crc s
  | .cardWr dir bm inc addr cnt crc => Sys2Proof.Machine.execCardWr dir bm inc addr cnt crc s
  | .irqRd dir fn bm inc cnt crc => Sys2Proof.Machine.execIrqRd dir fn bm inc cnt crc s
  | .irqClr dir fn bm inc cnt crc => Sys2Proof.Machine.execIrqClr dir fn bm inc cnt crc s
  | .cmd53WrStatus dir fn bm inc cnt crc => Sys2Proof.Machine.execCmd53WrStatus dir fn bm inc cnt crc s
  | .cmd53RdClear dir fn bm inc cnt crc => Sys2Proof.Machine.execCmd53RdClear dir fn bm inc cnt crc s
  | .bulkRd dir bm inc addr cnt crc => Sys2Proof.Machine.execBulkRd dir bm inc addr cnt crc s
  | .bulkWr dir bm inc addr cnt crc => Sys2Proof.Machine.execBulkWr dir bm inc addr cnt crc s
  | .cmd53Rd dir fn bm inc addr cnt crc => Sys2Proof.Machine.execCmd53Rd dir fn bm inc addr cnt crc s
  | .cmd53Wr dir fn bm inc addr cnt crc => Sys2Proof.Machine.execCmd53Wr dir fn bm inc addr cnt crc s
  | .windowStart => Sys2Proof.Machine.execWindowStart s
  | .outByte b => Sys2Proof.Machine.execOutByte b s
  | .inByte b => Sys2Proof.Machine.execInByte b s
  | .windowEnd => Sys2Proof.Machine.execWindowEnd s
  | .irqBit0 => Sys2Proof.Machine.execIrqBit0 s
  | .irqBit1 => Sys2Proof.Machine.execIrqBit1 s
  | .irqBit2 => Sys2Proof.Machine.execIrqBit2 s
  | .irqBit3 => Sys2Proof.Machine.execIrqBit3 s
  | .irqBit4 => Sys2Proof.Machine.execIrqBit4 s
  | .irqBit5 => Sys2Proof.Machine.execIrqBit5 s
  | .irqBit6 => Sys2Proof.Machine.execIrqBit6 s
  | .irqBit7 => Sys2Proof.Machine.execIrqBit7 s
  | .irqBit8 => Sys2Proof.Machine.execIrqBit8 s
  | .irqBit9 => Sys2Proof.Machine.execIrqBit9 s
  | .irqBit10 => Sys2Proof.Machine.execIrqBit10 s
  | .irqBit11 => Sys2Proof.Machine.execIrqBit11 s
  | .irqBit12 => Sys2Proof.Machine.execIrqBit12 s
  | .irqBit13 => Sys2Proof.Machine.execIrqBit13 s
  | .irqBit15 => Sys2Proof.Machine.execIrqBit15 s
  | .irqBit17 => Sys2Proof.Machine.execIrqBit17 s
  | .irqBit18 => Sys2Proof.Machine.execIrqBit18 s
  | .irqBit19 => Sys2Proof.Machine.execIrqBit19 s
  | .irqBit20 => Sys2Proof.Machine.execIrqBit20 s
  | .irqBit21 => Sys2Proof.Machine.execIrqBit21 s
  | .irqBit22 => Sys2Proof.Machine.execIrqBit22 s
  | .irqBit23 => Sys2Proof.Machine.execIrqBit23 s
  | .irqBit24 => Sys2Proof.Machine.execIrqBit24 s
  | .irqBit25 => Sys2Proof.Machine.execIrqBit25 s
  | .irqBit26 => Sys2Proof.Machine.execIrqBit26 s
  | .irqBit27 => Sys2Proof.Machine.execIrqBit27 s

end Sys2Proof.Machine
end

