-- ==== Sys2Proof/Machine/Fetch.lean ====
section
/-! DEFINITION. How the next instruction reaches the decoder: what each kind of delivered input gives it, and what becomes of an input that the decoder rejects (spec/20_memory.md R50, R66; spec/30_encoding.md R99, R104; spec/42_irq_decoder.md R161). -/

namespace Sys2Proof.Machine

/-- The state after a scan of an interrupt-status value has handed its lowest remaining bit to the decoder: a scan
that begins clears the report (R161: `names = []`), one that found a bit goes on after it, one that found none is over. -/
def State.takeIrqScan (s : State) (value : BitVec 32) (position : Nat) (rest : List Input) : State :=
  { s with
    irqOut := if position = 0 then [] else s.irqOut
    input :=
      match lowestIrqBit s.cfg (irqRemaining value position) with
      | some n => .irqScan value (n + 1) :: rest
      | none => rest }

/-- The word the next input gives the decoder, and the state once it has been taken. Nothing delivered and reset give
no word. -/
def fetch (s : State) : Option (CodeWord × State) :=
  match s.input with
  | [] => none
  | .reset :: _ => none
  | .event e :: rest => some (.event10 e, { s with input := rest })
  | .window out inb :: rest => some (.frame out, { s.loadWindow out inb with input := rest })
  | .irqScan v k :: rest => some (.pay32 (irqRemaining v k), s.takeIrqScan v k rest)

/-- What becomes of an input that is no instruction: a value without a further defined bit is passed over (R161), a
defined bit without a row contributes its position all the same (R161; log 20), and a window whose frame is illegal
is rejected with its class (R104, R172, R173); like every window it needs `win = 0` (R290). -/
def State.onReject (s : State) (r : DecodeReject) : Result :=
  match r with
  | .noDefinedBit => .next s
  | .noRow n => .next (s.reportIrq n)
  | .shortFrame => if s.win then .refused .windowInWindow else .next (s.rejectWindow (rejectCause .shortFrame))
  | .badMarker => if s.win then .refused .windowInWindow else .next (s.rejectWindow (rejectCause .badMarker))
  | .badCommand => if s.win then .refused .windowInWindow else .next (s.rejectWindow (rejectCause .badCommand))

/-- The step that decodes nothing: reset takes effect (R280); with nothing delivered the parser waits without any
state change (R258, U17). -/
def State.withoutWord (s : State) : State :=
  match s.input with
  | .reset :: rest => { s.resetRegisters with input := rest }
  | _ => s

/-- The input that delivers a word of the opcode table: an event, a whole window with no inbound byte, or an
interrupt-status value. -/
def deliver : CodeWord → Input
  | .event10 e => .event e
  | .frame out => .window out []
  | .pay32 p => .irqScan p 0

end Sys2Proof.Machine
end

