-- ==== Sys2Proof/Machine/Step.lean ====
section
/-! DEFINITION. One step of the machine, and how a word of the opcode table is put where the next step takes it from. One input is one atomic step (spec/20_memory.md R66; spec/70_reset_and_hazards.md R296). -/

namespace Sys2Proof.Machine

/-- One step: the next input's word is decoded under the machine's configuration and executed; a word that is no
instruction has the effect the spec gives it; reset takes effect; with nothing delivered nothing changes. -/
def step (s : State) : Host.Outcome State Fault Refusal :=
  match fetch s with
  | some (w, t) =>
    match decode t.cfg w with
    | .ok i => exec i t
    | .error r => t.onReject r
  | none => .next s.withoutWord

/-- `s` with the instruction of the given table bits as its next input (log 11). -/
def State.withFetchWord (s : State) (nbits w : Nat) : State :=
  match tableWord nbits w with
  | some x => { s with input := deliver x :: s.input }
  | none => s

end Sys2Proof.Machine
end

