-- ==== Sys2Proof/Machine/Assembler.lean ====
section
/-! DEFINITION. PARSE_WINDOW, the window-level function: what one window emits, as a pure function of its two byte sequences and the configuration (spec/43_assembler.md R171 to R174). -/

namespace Sys2Proof.Machine

/-- Seven bytes read from a sequence, as a frame. -/
def bytes7? : List Byte → Option (Vector Byte 7)
  | [b0, b1, b2, b3, b4, b5, b6] => some #v[b0, b1, b2, b3, b4, b5, b6]
  | _ => none

/-- `PARSE_WINDOW` (R171): the record, if the window emits one, and the class recorded for it. -/
def parseWindow (c : Config) (out inb : List Byte) : Option Transaction × Cause :=
  match (memRead out 0 frameLen).bind bytes7? with
  | none => (none, .malformedShort)
  | some f =>
    match frameCheck c (splitFrame f).startMarker (splitFrame f).directionAndIndex with
    | .badMarker => (none, .malformedMarker)
    | .badCommand => (none, .malformedCommand)
    | .ok =>
      let t := decodeArgument (splitFrame f).argBytes
      let pc := windowPayload c (irqKind c t.function t.address t.isWrite) inb
      (some (classifiedRecord c t pc.1), pc.2)

end Sys2Proof.Machine
end

