-- ==== Sys2Proof/Machine/Display.lean ====
section
/-! DEFINITION. RENDER, the host's display string of a record (spec/44_display.md R220 to R227): a pure function that reads only the record and the tables. What the spec leaves OPEN is the parameter RenderStyle. -/

namespace Sys2Proof.Machine

/-- `RENDER_STYLE`: everything about the display strings that D0 does not pin (R223 to R227, U18). -/
structure RenderStyle where
  /-- `<label>`: which label a template shows and what stands for an absent one -/
  label : Transaction → String
  /-- `<addr-hex>`: the letter digits are capitals -/
  addressCapitals : Bool
  /-- `<addr-hex>`: zeros pad the digits to at least this number; the four digits of `0x6050` leave 0 to 4 (R223) -/
  addressPadding : Fin 5
  /-- `<hex>`: a `0x` stands before the digits -/
  hexLead : Bool
  /-- `<hex>`: the letter digits are capitals -/
  hexCapitals : Bool
  /-- `<hex>`: zeros pad the digits to at least this number -/
  hexPadding : Nat
  /-- `<n>` -/
  countText : BitVec 9 → String
  /-- `<8-hex-digits>` are written in capitals -/
  capitals : Bool
  /-- a `0x` stands before those digits inside `val:` (R224) -/
  valueLead : Bool
  /-- between two interrupt names -/
  separator : String
  /-- the explicit "none" marker -/
  noneMarker : String
  /-- what stands for the names when the payload is absent -/
  absentNames : String
  /-- what stands for the value when the payload is absent -/
  absentValue : String

/-- One hexadecimal digit. -/
def hexDigit (capitals : Bool) (d : BitVec 4) : String :=
  match d.toNat with
  | 0 => "0" | 1 => "1" | 2 => "2" | 3 => "3" | 4 => "4" | 5 => "5" | 6 => "6" | 7 => "7" | 8 => "8" | 9 => "9"
  | 10 => if capitals then "A" else "a"
  | 11 => if capitals then "B" else "b"
  | 12 => if capitals then "C" else "c"
  | 13 => if capitals then "D" else "d"
  | 14 => if capitals then "E" else "e"
  | _ => if capitals then "F" else "f"

/-- Exactly eight hexadecimal digits (R224). -/
def hex8 (capitals : Bool) (v : BitVec 32) : String :=
  hexDigit capitals (v.extractLsb' 28 4) ++ hexDigit capitals (v.extractLsb' 24 4)
    ++ hexDigit capitals (v.extractLsb' 20 4) ++ hexDigit capitals (v.extractLsb' 16 4)
    ++ hexDigit capitals (v.extractLsb' 12 4) ++ hexDigit capitals (v.extractLsb' 8 4)
    ++ hexDigit capitals (v.extractLsb' 4 4) ++ hexDigit capitals (v.extractLsb' 0 4)

/-- The hexadecimal digits of an address, most significant first, without leading zeros but for those that pad them to
`least` digits; at least one (R227). -/
def addressDigits (least : Nat) (a : BitVec 17) : List (BitVec 4) :=
  let digits := ([a.extractLsb' 16 4, a.extractLsb' 12 4, a.extractLsb' 8 4, a.extractLsb' 4 4, a.extractLsb' 0 4]
    : List (BitVec 4)).dropWhile (· == 0#4)
  List.replicate (max 1 least - digits.length) 0#4 ++ digits

/-- Hexadecimal digits as text. -/
def digitsText (capitals : Bool) (digits : List (BitVec 4)) : String :=
  String.join (digits.map (hexDigit capitals))

/-- A `0x`, where one stands. -/
def leadText (lead : Bool) : String := if lead then "0x" else ""

/-- `<addr-hex>`: the address in hexadecimal behind a `0x` (R223, R227). -/
def addressText (y : RenderStyle) (a : BitVec 17) : String :=
  "0x" ++ digitsText y.addressCapitals (addressDigits y.addressPadding.val a)

/-- `<hex>`: the address in hexadecimal (R221, R222, R227). -/
def hexText (y : RenderStyle) (a : BitVec 17) : String :=
  leadText y.hexLead ++ digitsText y.hexCapitals (addressDigits y.hexPadding a)

/-- `<names-or-none>`: the names in ascending bit order, or the explicit marker when there are none (R226). -/
def namesText (c : Config) (y : RenderStyle) (r : Transaction) : String :=
  match r.payload with
  | none => y.absentNames
  | some p =>
    match activeInterruptNames c p with
    | [] => y.noneMarker
    | names => y.separator.intercalate names

/-- The value inside `val:` (R224). -/
def valueText (y : RenderStyle) (r : Transaction) : String :=
  match r.payload with
  | none => y.absentValue
  | some p => leadText y.valueLead ++ hex8 y.capitals p.decodedPayload

/-- `<RD|WR>` (R222). -/
def rdWr (t : Argument) : String := if t.isWrite then "WR" else "RD"

/-- `<Byte|Block>,<Incr|Fixed>` (R222). -/
def modeText (t : Argument) : String :=
  (if t.blockMode then "Block" else "Byte") ++ "," ++ (if t.incrementAddressing then "Incr" else "Fixed")

/-- The template of the card control kinds (R221). -/
def renderCard (y : RenderStyle) (r : Transaction) : String :=
  "CARD: " ++ y.label r ++ " | Addr:" ++ hexText y r.argument.address ++ " "
    ++ (if r.argument.isWrite then "Write" else "Read") ++ " Cnt:" ++ y.countText r.argument.count

/-- The template of the register kinds without a payload (R222). -/
def renderCmd53 (y : RenderStyle) (r : Transaction) : String :=
  "CMD53 " ++ rdWr r.argument ++ ": " ++ y.label r ++ " | Addr:" ++ hexText y r.argument.address ++ " Cnt:"
    ++ y.countText r.argument.count ++ " " ++ modeText r.argument

/-- The template of the interrupt-status read (R223). -/
def renderIrqRd (c : Config) (y : RenderStyle) (r : Transaction) : String :=
  "IRQ RD: " ++ y.label r ++ " | " ++ addressText y r.argument.address ++ " [" ++ namesText c y r ++ "]"

/-- The template of the interrupt-clear write (R224). -/
def renderIrqClr (c : Config) (y : RenderStyle) (r : Transaction) : String :=
  "IRQ CLR: " ++ y.label r ++ " | " ++ addressText y r.argument.address ++ " (val:" ++ valueText y r ++ ") ["
    ++ namesText c y r ++ "]"

/-- The template of the bulk kinds (R225): the size in bytes, in decimal. -/
def renderBulk (c : Config) (y : RenderStyle) (r : Transaction) : String :=
  "BULK " ++ rdWr r.argument ++ ": " ++ y.label r ++ " | " ++ addressText y r.argument.address ++ " ["
    ++ Nat.repr (displaySize c r.argument.blockMode r.argument.count).toNat ++ " bytes] " ++ modeText r.argument

/-- `RENDER`: the template is selected by the record's kind (R220). -/
def render (c : Config) (y : RenderStyle) (r : Transaction) : String :=
  match r.kind with
  | .cardRd | .cardWr => renderCard y r
  | .cmd53Rd | .cmd53Wr => renderCmd53 y r
  | .irqRd => renderIrqRd c y r
  | .irqClr => renderIrqClr c y r
  | .bulkRd | .bulkWr => renderBulk c y r

end Sys2Proof.Machine
end

