-- ==== Sys2Proof/Safety.lean ====
section
/-! DEFINITION. The terms in which statements about the machine are made: what the host sees, the invariant of spec/10_state.md R36, the interface contract of spec/70_reset_and_hazards.md R290, and windows delivered byte by byte in any interleaving (spec/20_memory.md R67; spec/43_assembler.md R190). -/

namespace Sys2Proof.Machine

/-! ### What the host sees -/

/-- The record the host may read: `some(rec)` only while `rec_valid = 1` (R25, R182, U3). -/
def State.output (s : State) : Option Transaction := if s.recValid then some s.record else none

/-! ### The invariant -/

/-- R36 for the state of one instance, with the window's delivered sequences standing for "outbound byte `i` of the
current window" and "inbound byte of the current window". -/
structure Inv (s : State) : Prop where
  /-- (a) and R22: `ocnt` counts the outbound bytes and saturates at 7 -/
  outCount : s.ocnt.toNat = min frameLen s.outSeq.length
  /-- (a) and R23: `icnt` counts the inbound bytes and saturates at `PAYLOAD_OFFSET + 4` -/
  inCount : s.icnt.toNat = min s.cfg.payloadEnd s.inSeq.length
  /-- (b) -/
  outBytes : ∀ i, i < s.ocnt.toNat → s.obuf[i]? = s.outSeq[i]?
  /-- (c) -/
  inBytes : ∀ j, j < payloadLen → s.cfg.payloadOffset.val + j < s.icnt.toNat →
    s.ibuf[j]? = s.inSeq[s.cfg.payloadOffset.val + j]?
  /-- (d): between windows `AwaitingFrame` is found only before the first window after reset -/
  awaiting : s.st = .awaitingFrame →
    (s.win = false ∧ s.ocnt = 0#3 ∧ s.icnt = 0#4 ∧ s.recValid = false ∧ s.cause = .none)
      ∨ (s.win = true ∧ s.ocnt.toNat < frameLen)
  /-- (e) -/
  recognized : s.st = .frameRecognized ∨ s.st = .payloadPending → s.win = true ∧ s.ocnt.toNat = frameLen
  /-- (f) -/
  complete : s.st = .complete → s.win = false
  /-- (g) -/
  valid : s.recValid = true → s.st = .complete ∧ s.win = false
  /-- R178: `Rejected` inside a window is entered at the seventh outbound byte -/
  rejected : s.st = .rejected → s.win = true → s.ocnt.toNat = frameLen
  /-- R177: with seven bytes seen, `st` is what the frame evaluates to -/
  decided : s.win = true → s.ocnt.toNat = frameLen → s.st = frameState s.cfg s.obuf

/-- Between windows, the outputs are what `PARSE_WINDOW` gives for the last window's two sequences (R171, R190). -/
def OutputCorrect (s : State) : Prop :=
  s.win = false → s.st ≠ .awaitingFrame → (s.output, s.cause) = parseWindow s.cfg s.outSeq s.inSeq

/-! ### The interface contract -/

/-- Whether the inputs form a sequence of windows (R290), starting inside a window or not: events in the order
`WINDOW_START`, bytes, `WINDOW_END`; whole windows between them; values for the interrupt-status decoder anywhere;
reset anywhere, which abandons the window under way (R281). -/
def contract : Bool → List Input → Bool
  | _, [] => true
  | _, .reset :: rest => contract false rest
  | w, .irqScan _ _ :: rest => contract w rest
  | false, .window _ _ :: rest => contract false rest
  | true, .window _ _ :: _ => false
  | w, .event e :: rest =>
    match decodeEvent e, w with
    | .windowStart, false => contract true rest
    | .outByte _, true => contract true rest
    | .inByte _, true => contract true rest
    | .windowEnd, true => contract false rest
    | _, _ => false

/-! ### Windows delivered byte by byte -/

/-- One byte of a window, on one of its two channels. -/
inductive BusByte where
  | out (b : Byte)
  | inb (b : Byte)
deriving DecidableEq, Repr

/-- The outbound bytes of a delivery, in order. -/
def outBytes : List BusByte → List Byte
  | [] => []
  | .out b :: rest => b :: outBytes rest
  | .inb _ :: rest => outBytes rest

/-- The inbound bytes of a delivery, in order. -/
def inBytes : List BusByte → List Byte
  | [] => []
  | .out _ :: rest => inBytes rest
  | .inb b :: rest => b :: inBytes rest

/-- The interface event of a byte (R99). -/
def BusByte.input : BusByte → Input
  | .out b => .event (packEvent 1#2 b)
  | .inb b => .event (packEvent 2#2 b)

/-- The events of one window: `WINDOW_START`, its bytes in the given interleaving, `WINDOW_END` (R190). -/
def windowEvents (bytes : List BusByte) : List Input :=
  .event (packEvent 0#2 0#8) :: (bytes.map BusByte.input ++ [.event (packEvent 3#2 0#8)])

/-! ### Names for instructions in statements -/

/-- The transaction kind a frame row stands for (R101, R103). -/
def instrKind : Instr → Option Kind
  | .cardRd .. => some .cardRd
  | .cardWr .. => some .cardWr
  | .irqRd .. => some .irqRd
  | .irqClr .. => some .irqClr
  | .cmd53WrStatus .. => some .cmd53Wr
  | .cmd53RdClear .. => some .cmd53Rd
  | .bulkRd .. => some .bulkRd
  | .bulkWr .. => some .bulkWr
  | .cmd53Rd .. => some .cmd53Rd
  | .cmd53Wr .. => some .cmd53Wr
  | _ => none

/-! ### The state after a recognised window, field by field -/

/-- The 32 bits of the argument, its fields side by side, the direction most significant (R85). -/
def argumentBits (t : Argument) : BitVec 32 :=
  BitVec.ofBool t.isWrite ++ t.function ++ BitVec.ofBool t.blockMode ++ BitVec.ofBool t.incrementAddressing
    ++ t.address ++ t.count

/-- The byte an inbound position leaves in a payload buffer byte: the delivered one, or else the old content (R21). -/
def ibufAfter (s : State) (j : Nat) (old : Byte) : Byte := (s.inSeq[s.cfg.payloadOffset.val + j]?).getD old

/-- What a whole window with the given frame leaves, the outbound bytes being the frame's seven and possibly more:
every register of R20 at the value its rule gives after the window's last event (R21, R22, R23, R100, R180 to R182),
and everything else as it was. -/
def afterFrame (s : State) (dir : Byte) (t : Argument) (crc : Byte) (category : Category) (kind : Kind)
    (payload : Option IrqPayload) (why : Cause) : State :=
  { s with
    st := .complete
    win := false
    ocnt := 7#3
    obuf := #v[s.cfg.startMarker, dir, (argumentBits t).extractLsb' 24 8, (argumentBits t).extractLsb' 16 8,
      (argumentBits t).extractLsb' 8 8, (argumentBits t).extractLsb' 0 8, crc]
    icnt := BitVec.ofNat 4 (min (s.cfg.payloadOffset.val + 4) s.inSeq.length)
    ibuf := #v[ibufAfter s 0 s.ibuf[0], ibufAfter s 1 s.ibuf[1], ibufAfter s 2 s.ibuf[2], ibufAfter s 3 s.ibuf[3]]
    recValid := true
    record :=
      { argument := t
        functionLabel := s.cfg.funcLabel.lookup t.function
        addressLabel := s.cfg.addrLabel.lookup t.address
        category := category
        kind := kind
        payload := payload }
    cause := why }

end Sys2Proof.Machine
end

