-- ==== Sys2Proof/Certificates/Slice0/Obligations.lean ====
section
/-! DEFINITION. The statements about the machine, for the provers. Each docstring names the rules of spec/ the statement formalises or rests on. -/

open Sys2Proof Sys2Proof.Machine

/-- Decoding the encoding of any well-formed instruction gives it back (30_encoding.md §3, §4, §6 (R95, R99, R103); 42_irq_decoder.md (R161); 60_exceptions.md §3 (R249); notes/assumptions/5.md). The model's own, by log 5: the rows of the interrupt bit table as instructions. -/
def Obligations.DecodeOfEncode : Prop :=
  ∀ (c : Config) (i : Instr), c.irqStatusAddr ≠ c.irqClearAddr → WellFormed c i = true → decode c (encode c i) = .ok i

/-- Encoding a decoded frame gives back its seven bytes (30_encoding.md §1, §6 (R81, R103); 20_memory.md §1 (R51)). -/
def Obligations.EncodeOfDecodedFrame : Prop :=
  ∀ (c : Config) (out : List Byte) (i : Instr), decode c (.frame out) = .ok i →
    WellFormed c i = true ∧ encode c i = .frame (out.take 7)

/-- A frame is refused exactly when it is short, has a wrong marker or a wrong command byte, by that name (30_encoding.md §7 (R104); 43_assembler.md §1 (R172, R173); 40_codec.md (R122)). -/
def Obligations.FrameRefusalsAreNamed : Prop :=
  ∀ (c : Config) (out : List Byte),
    (out.length < 7 → decode c (.frame out) = .error .shortFrame)
      ∧ ∀ (m d : Byte) (rest : List Byte), out = m :: d :: rest → 7 ≤ out.length →
          (m ≠ c.startMarker → decode c (.frame out) = .error .badMarker)
            ∧ (m = c.startMarker → d &&& c.cmdMask ≠ c.cmdMatch → decode c (.frame out) = .error .badCommand)
            ∧ (m = c.startMarker → d &&& c.cmdMask = c.cmdMatch → ∃ i, decode c (.frame out) = .ok i)

/-- The decode map is the spec's table of masks and matches, total on recognised frames (30_encoding.md §6 (R103)). The spec marks R103 as its own derivation. -/
def Obligations.DecodeMapIsTheTable : Prop :=
  (frameRows Config.default).map (fun r => (r.mask, r.pattern, instrKind (r.build r.pattern))) =
      [(0xFFFFF000000000#56, 0xFF750000000000#56, some .cardRd),
       (0xFFFFF000000000#56, 0xFF758000000000#56, some .cardWr),
       (0xFFFF83FFFE0000#56, 0xFF7500C0A00000#56, some .irqRd),
       (0xFFFF83FFFE0000#56, 0xFF7580C0B00000#56, some .irqClr),
       (0xFFFF83FFFE0000#56, 0xFF7580C0A00000#56, some .cmd53Wr),
       (0xFFFF83FFFE0000#56, 0xFF7500C0B00000#56, some .cmd53Rd),
       (0xFFFFF000000000#56, 0xFF752000000000#56, some .bulkRd),
       (0xFFFFF000000000#56, 0xFF75A000000000#56, some .bulkWr),
       (0xFFFF8000000000#56, 0xFF750000000000#56, some .cmd53Rd),
       (0xFFFF8000000000#56, 0xFF758000000000#56, some .cmd53Wr)]
    ∧ (∀ (f : BitVec 56) (before after : List FrameRow) (r : FrameRow),
        frameRows Config.default = before ++ r :: after → f &&& r.mask = r.pattern →
        (∀ q ∈ before, f &&& q.mask ≠ q.pattern) → decodeFrame Config.default f = .ok (r.build f))
    ∧ (∀ f : BitVec 56, f.extractLsb' 40 16 = 0xFF75#16 → ∃ i, decodeFrame Config.default f = .ok i)
    ∧ (∀ f : BitVec 56, f.extractLsb' 40 16 ≠ 0xFF75#16 → ∃ e, decodeFrame Config.default f = .error e)

/-- The first matching row of the decode map is the kind TXN_KIND gives (30_encoding.md §6 (R102); 41_classifier.md (R146)). -/
def Obligations.DecodedKindIsTxnKind : Prop :=
  ∀ (c : Config) (f : BitVec 56) (i : Instr), decodeFrame c f = .ok i →
    instrKind i = some (txnKind c (f.extractLsb' 36 3) (f.extractLsb' 17 17) (f.getLsbD 39))

/-- The four event codes and their data bits (R99). -/
def Obligations.EventWords : Prop :=
  (∀ (c : Config) (d : Byte),
      decode c (.event10 (0#2 ++ d)) = .ok .windowStart ∧ decode c (.event10 (1#2 ++ d)) = .ok (.outByte d)
        ∧ decode c (.event10 (2#2 ++ d)) = .ok (.inByte d) ∧ decode c (.event10 (3#2 ++ d)) = .ok .windowEnd)
    ∧ ∀ (c : Config) (e : BitVec 10), ∃ i, decode c (.event10 e) = .ok i

/-- A status value is read one defined set bit at a time, the lowest first (42_irq_decoder.md (R161); 30_encoding.md §3 (R95); notes/assumptions/5.md; notes/assumptions/20.md). The model's own, by log 5: the list of reported positions. The model's own, by log 20: a defined position without a row. -/
def Obligations.IrqRowsAscending : Prop :=
  ∀ (c : Config) (p : BitVec 32),
    (∀ n ∈ irqDefinedPositions c, p.getLsbD n = true → (∀ m ∈ irqDefinedPositions c, m < n → p.getLsbD m = false) →
        (∀ i, (n, i) ∈ irqRows →
            decode c (.pay32 p) = .ok i ∧ ∀ s : State, exec i s = .next { s with irqOut := s.irqOut ++ [n] })
          ∧ ((∀ i, (n, i) ∉ irqRows) → decode c (.pay32 p) = .error (.noRow n)))
      ∧ ((∀ n ∈ irqDefinedPositions c, p.getLsbD n = false) → decode c (.pay32 p) = .error .noDefinedBit)
      ∧ irqRows.map Prod.fst = irqDefinedPositions Config.default

/-- A few words written out from the encoding tables decode to the instructions they stand for (95_test_vectors.md §2.6 (T168 to T184); 30_encoding.md §3 (R95); 30_encoding.md §4 (R99); notes/assumptions/11.md; notes/assumptions/5.md). The model's own, by log 11: the reading of a table word by its number of bits. The model's own, by log 5: the rows of the interrupt bit table as instructions. -/
def Obligations.SampleWordsDecode : Prop :=
  decodeTableWord 56 0xFF7514C0A00489 = some (.irqRd 0x75#8 1#3 false true 4#9 0x89#8)
    ∧ decodeTableWord 56 0xFF7594C0B004CD = some (.irqClr 0x75#8 1#3 false true 4#9 0xCD#8)
    ∧ decodeTableWord 56 0xFF7504C0A004E9 = some (.cardRd 0x75#8 false true 0x06050#17 4#9 0xE9#8)
    ∧ decodeTableWord 56 0xFF758000080129 = some (.cardWr 0x75#8 false false 0x00004#17 1#9 0x29#8)
    ∧ decodeTableWord 56 0xFF752D2840030D = some (.bulkRd 0x75#8 true true 0x09420#17 3#9 0x0D#8)
    ∧ decodeTableWord 56 0xFF75AD2840033B = some (.bulkWr 0x75#8 true true 0x09420#17 3#9 0x3B#8)
    ∧ decodeTableWord 56 0xFF757BFFFFFFB9 = some (.cmd53Rd 0x75#8 7#3 true false 0x1FFFF#17 511#9 0xB9#8)
    ∧ decodeTableWord 56 0xFF75A4C0A0041F = some (.cmd53WrStatus 0x75#8 2#3 false true 4#9 0x1F#8)
    ∧ decodeTableWord 16 0x114 = some (.outByte 0x14#8)
    ∧ decodeTableWord 32 0x08000000 = some .irqBit27

/-- DECODE_ARGUMENT and ENCODE_ARGUMENT are inverse to each other (40_codec.md (R125)). The spec marks R125 as its own derivation. -/
def Obligations.ArgumentRoundTrip : Prop :=
  (∀ b : Bytes4, encodeArgument (decodeArgument b) = b) ∧ (∀ t : Argument, decodeArgument (encodeArgument t) = t)
    ∧ Function.Bijective decodeArgument

/-- Every argument field, bit for bit from the four bytes (R87). -/
def Obligations.ArgumentFieldsFromBytes : Prop :=
  ∀ b2 b3 b4 b5 : Byte,
    argumentWord ⟨b2, b3, b4, b5⟩ = b2 ++ b3 ++ b4 ++ b5
      ∧ decodeArgument ⟨b2, b3, b4, b5⟩ =
          { isWrite := b2.getLsbD 7
            function := b2.extractLsb' 4 3
            blockMode := b2.getLsbD 3
            incrementAddressing := b2.getLsbD 2
            address := b2.extractLsb' 0 2 ++ b3 ++ b4.extractLsb' 1 7
            count := b4.extractLsb' 0 1 ++ b5 }
      ∧ (let A : BitVec 32 := b2 ++ b3 ++ b4 ++ b5
         let t := decodeArgument ⟨b2, b3, b4, b5⟩
         t.address.setWidth 32 = (A >>> 9) &&& 0x1FFFF#32 ∧ t.count.setWidth 32 = A &&& 0x1FF#32
           ∧ t.function.setWidth 32 = (A >>> 28) &&& 0x7#32)

/-- The payload is little-endian and its two codec operations are inverse (R127). -/
def Obligations.PayloadIsLittleEndian : Prop :=
  (∀ b0 b1 b2 b3 : Byte, decodePayload ⟨b0, b1, b2, b3⟩ = b3 ++ b2 ++ b1 ++ b0)
    ∧ (∀ p : BitVec 32,
        encodePayload p = ⟨p.extractLsb' 0 8, p.extractLsb' 8 8, p.extractLsb' 16 8, p.extractLsb' 24 8⟩)
    ∧ (∀ p : BitVec 32, decodePayload (encodePayload p) = p) ∧ (∀ b : Bytes4, encodePayload (decodePayload b) = b)
    ∧ encodePayload 0x000004FE#32 = ⟨0xFE#8, 0x04#8, 0x00#8, 0x00#8⟩

/-- The 48-bit command word is the frame word without its start marker (30_encoding.md §1 (R83)). The spec marks R83 as its own derivation. -/
def Obligations.CommandWordOfFrame : Prop :=
  ∀ (v : Vector Byte 7) (f : BitVec 56), frameWord v.toList = some f →
    (splitFrame v).commandWord = f.extractLsb' 0 48
      ∧ (splitFrame v).commandWord =
          (splitFrame v).directionAndIndex ++ argumentWord (splitFrame v).argBytes ++ (splitFrame v).crcByte
      ∧ (splitFrame v).startMarker = f.extractLsb' 48 8

/-- CLASSIFY over its whole domain (R141). -/
def Obligations.ClassifyTable : Prop :=
  (∀ (c : Config) (a : BitVec 17), classify c 0#3 a = .cardControl)
    ∧ (∀ (c : Config) (a : BitVec 17), classify c 2#3 a =
        if a = c.irqStatusAddr ∨ a = c.irqClearAddr then .registerControl else .bulkData)
    ∧ (∀ (c : Config) (f : BitVec 3) (a : BitVec 17), f ≠ 0#3 → f ≠ 2#3 → classify c f a = .registerControl)
    ∧ Config.default.irqStatusAddr = 0x06050#17 ∧ Config.default.irqClearAddr = 0x06058#17

/-- An interrupt kind is always register control (41_classifier.md (R145)). The spec marks R145 as its own derivation. -/
def Obligations.IrqKindImpliesRegisterControl : Prop :=
  (∀ (c : Config) (f : BitVec 3) (a : BitVec 17) (w : Bool), irqKind c f a w ≠ .none → classify c f a = .registerControl)
    ∧ classify Config.default 1#3 0x06050#17 = .registerControl ∧ irqKind Config.default 1#3 0x06050#17 false = .irqRead
    ∧ classify Config.default 1#3 0x06058#17 = .registerControl ∧ irqKind Config.default 1#3 0x06058#17 true = .irqClear

/-- The kind determines category, interrupt recognition and direction, and its code's bit 0 is the direction (30_encoding.md §5 (R101); 41_classifier.md (R146)). -/
def Obligations.KindSaysCategoryIrqAndDirection : Prop :=
  (∀ (c : Config) (f : BitVec 3) (a : BitVec 17) (w : Bool),
      (txnKind c f a w).category = classify c f a ∧ (txnKind c f a w).irq = irqKind c f a w
        ∧ (txnKind c f a w).isWrite = w ∧ (txnKind c f a w).code.getLsbD 0 = w)
    ∧ ([Kind.cardRd, .cardWr, .cmd53Rd, .cmd53Wr, .irqRd, .irqClr, .bulkRd, .bulkWr].map
        fun k => (k.code.toNat, k.category, k.irq, k.isWrite)) =
        [(0, .cardControl, .none, false), (1, .cardControl, .none, true),
         (2, .registerControl, .none, false), (3, .registerControl, .none, true),
         (4, .registerControl, .irqRead, false), (5, .registerControl, .irqClear, true),
         (6, .bulkData, .none, false), (7, .bulkData, .none, true)]

/-- The displayed size is the count, times 512 in block mode, and never overflows (41_classifier.md DISPLAY_SIZE (R149); 00_scope.md §5 (R10)). -/
def Obligations.DisplaySizeInBytes : Prop :=
  ∀ c : Config, c.blockSize = 512 →
    (∀ (bm : Bool) (n : BitVec 9), displaySize c bm n = if bm then n.setWidth 18 <<< 9 else n.setWidth 18)
      ∧ (∀ (bm : Bool) (n : BitVec 9), (displaySize c bm n).toNat = if bm then n.toNat * c.blockSize else n.toNat)
      ∧ (∀ (bm : Bool) (n : BitVec 9), (displaySize c bm n).toNat ≤ 261632)
      ∧ (∀ bm : Bool, displaySize c bm 0#9 = 0#18) ∧ displaySize c true 3#9 = 1536#18
      ∧ displaySize c true 511#9 = 261632#18

/-- The defined interrupt bits: 0 to 13, 15 and 17 to 27 (30_encoding.md §3 (R96); notes/assumptions/15.md). The spec marks R96 as its own derivation. The model's own, by log 15: the mask as a field of the configuration. -/
def Obligations.DefinedMask : Prop :=
  let mask := Config.default.irqDefinedMask
  mask = 0x00003FFF#32 ||| 0x00008000#32 ||| 0x0FFE0000#32 ∧ mask = 0x0FFEBFFF#32
    ∧ irqDefinedPositions Config.default =
        [0, 1, 2, 3, 4, 5, 6, 7, 8, 9, 10, 11, 12, 13, 15, 17, 18, 19, 20, 21, 22, 23, 24, 25, 26, 27]
    ∧ (irqDefinedPositions Config.default).length = 26 ∧ ~~~mask = 0xF0014000#32
    ∧ (List.range 32).filter (~~~mask).getLsbD = [14, 16, 28, 29, 30, 31]

/-- Order, idempotence, monotony, masking, length and injectivity of the interrupt-status decoder (42_irq_decoder.md (R163)). The spec marks R163 as its own derivation. -/
def Obligations.IrqDecoderLaws : Prop :=
  ∀ c : Config,
    (∀ v : BitVec 32, (irqPositions c v).Pairwise (· < ·))
      ∧ (∀ v : BitVec 32, activeMask c (activeMask c v) = activeMask c v)
      ∧ (∀ v w : BitVec 32, v &&& w = v → activeMask c v &&& activeMask c w = activeMask c v)
      ∧ (∀ v : BitVec 32, decodeIrqBits c v = decodeIrqBits c (activeMask c v))
      ∧ (c.wf = true → ∀ v : BitVec 32,
          (decodeIrqBits c v).length = (List.range 32).countP (activeMask c v).getLsbD)
      ∧ (c.wf = true →
          (∀ m ∈ irqDefinedPositions c, ∀ n ∈ irqDefinedPositions c, irqNameAt c m = irqNameAt c n → m = n) →
          ∀ v w : BitVec 32, decodeIrqBits c v = decodeIrqBits c w ↔ activeMask c v = activeMask c w)

/-- A position is reported iff it is set and defined, iff its bit of the active mask is 1 (42_irq_decoder.md ACTIVE_MASK (R162); 30_encoding.md §3 (R97)). -/
def Obligations.ActiveMaskIsThePositions : Prop :=
  ∀ (c : Config) (v : BitVec 32),
    (∀ n : Nat, n ∈ irqPositions c v ↔ (activeMask c v).getLsbD n = true)
      ∧ (∀ n : Nat, n ∈ irqPositions c v ↔ v.getLsbD n = true ∧ n ∈ irqDefinedPositions c)
      ∧ ((List.range 32).filter (activeMask c v).getLsbD).filterMap (irqNameAt c) = decodeIrqBits c v

/-- Each row of the interrupt bit table completes and appends its position (the report list is the model's own, log 5) (42_irq_decoder.md DECODE_IRQ_BITS (R161); notes/assumptions/5.md). The model's own, by log 5: the rows as instructions, and their report. -/
def Obligations.IrqBitRowsReport : Prop :=
  (∀ s : State, exec .irqBit0 s = .next { s with irqOut := s.irqOut ++ [0] })
    ∧ (∀ s : State, exec .irqBit1 s = .next { s with irqOut := s.irqOut ++ [1] })
    ∧ (∀ s : State, exec .irqBit2 s = .next { s with irqOut := s.irqOut ++ [2] })
    ∧ (∀ s : State, exec .irqBit3 s = .next { s with irqOut := s.irqOut ++ [3] })
    ∧ (∀ s : State, exec .irqBit4 s = .next { s with irqOut := s.irqOut ++ [4] })
    ∧ (∀ s : State, exec .irqBit5 s = .next { s with irqOut := s.irqOut ++ [5] })
    ∧ (∀ s : State, exec .irqBit6 s = .next { s with irqOut := s.irqOut ++ [6] })
    ∧ (∀ s : State, exec .irqBit7 s = .next { s with irqOut := s.irqOut ++ [7] })
    ∧ (∀ s : State, exec .irqBit8 s = .next { s with irqOut := s.irqOut ++ [8] })
    ∧ (∀ s : State, exec .irqBit9 s = .next { s with irqOut := s.irqOut ++ [9] })
    ∧ (∀ s : State, exec .irqBit10 s = .next { s with irqOut := s.irqOut ++ [10] })
    ∧ (∀ s : State, exec .irqBit11 s = .next { s with irqOut := s.irqOut ++ [11] })
    ∧ (∀ s : State, exec .irqBit12 s = .next { s with irqOut := s.irqOut ++ [12] })
    ∧ (∀ s : State, exec .irqBit13 s = .next { s with irqOut := s.irqOut ++ [13] })
    ∧ (∀ s : State, exec .irqBit15 s = .next { s with irqOut := s.irqOut ++ [15] })
    ∧ (∀ s : State, exec .irqBit17 s = .next { s with irqOut := s.irqOut ++ [17] })
    ∧ (∀ s : State, exec .irqBit18 s = .next { s with irqOut := s.irqOut ++ [18] })
    ∧ (∀ s : State, exec .irqBit19 s = .next { s with irqOut := s.irqOut ++ [19] })
    ∧ (∀ s : State, exec .irqBit20 s = .next { s with irqOut := s.irqOut ++ [20] })
    ∧ (∀ s : State, exec .irqBit21 s = .next { s with irqOut := s.irqOut ++ [21] })
    ∧ (∀ s : State, exec .irqBit22 s = .next { s with irqOut := s.irqOut ++ [22] })
    ∧ (∀ s : State, exec .irqBit23 s = .next { s with irqOut := s.irqOut ++ [23] })
    ∧ (∀ s : State, exec .irqBit24 s = .next { s with irqOut := s.irqOut ++ [24] })
    ∧ (∀ s : State, exec .irqBit25 s = .next { s with irqOut := s.irqOut ++ [25] })
    ∧ (∀ s : State, exec .irqBit26 s = .next { s with irqOut := s.irqOut ++ [26] })
    ∧ (∀ s : State, exec .irqBit27 s = .next { s with irqOut := s.irqOut ++ [27] })

/-- Scanning a status value reports exactly its defined set positions, ascending, and ends (the scan is the model's form, log 5) (42_irq_decoder.md DECODE_IRQ_BITS (R161); notes/assumptions/5.md; notes/assumptions/20.md). The model's own, by log 5: the scan, its steps and its report. The model's own, by log 20: a defined position without a row is reported too. -/
def Obligations.ScanReportsEveryPosition : Prop :=
  ∀ (s : State) (v : BitVec 32) (rest : List Input), s.input = .irqScan v 0 :: rest →
    Host.Core.run Sys2Proof.core ((irqPositions s.cfg v).length + 1) s =
      .next { s with irqOut := irqPositions s.cfg v, input := rest }

/-- WINDOW_START opens a window from any value of st and leaves buffers and rec as they are (R175). -/
def Obligations.WindowStartResult : Prop :=
  (∀ s : State, s.win = false →
      ∃ o i : List Byte,
        exec .windowStart s =
          .next
            { s with
              st := .awaitingFrame
              win := true
              ocnt := 0#3
              icnt := 0#4
              recValid := false
              cause := .none
              outSeq := o
              inSeq := i })
    ∧ (∀ s : State, s.win = true → ∀ t, exec .windowStart s ≠ .next t)
    ∧ ∀ (c : Config) (d : Byte), decode c (.event10 (0#2 ++ d)) = .ok .windowStart

/-- OUT_BYTE stores and counts the first seven bytes, evaluates the frame at the seventh, and ignores the rest (43_assembler.md §2 (R176, R177); 10_state.md §2 (R22); notes/assumptions/4.md). The model's own, by log 4: the list of delivered bytes. -/
def Obligations.OutByteResult : Prop :=
  ∀ (s : State) (b : Byte), s.win = true →
    (∀ k : Fin 6, s.ocnt.toNat = k.val →
        exec (.outByte b) s =
          .next
            { s with
              obuf := s.obuf.set k.val b (by omega)
              ocnt := BitVec.ofNat 3 (k.val + 1)
              outSeq := s.outSeq ++ [b] })
      ∧ (s.ocnt.toNat = 6 →
          ∃ st', exec (.outByte b) s =
              .next { s with obuf := s.obuf.set 6 b, ocnt := 7#3, st := st', outSeq := s.outSeq ++ [b] }
            ∧ (st' = .rejected ↔ s.obuf[0] ≠ s.cfg.startMarker ∨ s.obuf[1] &&& s.cfg.cmdMask ≠ s.cfg.cmdMatch)
            ∧ (st' = .payloadPending ↔
                s.obuf[0] = s.cfg.startMarker ∧ s.obuf[1] &&& s.cfg.cmdMask = s.cfg.cmdMatch
                  ∧ (s.obuf[2].extractLsb' 4 3 ≠ 0#3)
                  ∧ ((s.obuf[2].extractLsb' 0 2 ++ s.obuf[3] ++ s.obuf[4].extractLsb' 1 7 = s.cfg.irqStatusAddr
                        ∧ s.obuf[2].getLsbD 7 = false)
                      ∨ (s.obuf[2].extractLsb' 0 2 ++ s.obuf[3] ++ s.obuf[4].extractLsb' 1 7 = s.cfg.irqClearAddr
                        ∧ s.obuf[2].getLsbD 7 = true)))
            ∧ (st' = .rejected ∨ st' = .payloadPending ∨ st' = .frameRecognized))
      ∧ (s.ocnt.toNat = 7 → exec (.outByte b) s = .next { s with outSeq := s.outSeq ++ [b] })

/-- IN_BYTE counts up to PAYLOAD_OFFSET + 4 and stores the four payload bytes, whatever st is (43_assembler.md §2 (R179); 10_state.md §2 (R23); notes/assumptions/4.md). The model's own, by log 4: the list of delivered bytes. -/
def Obligations.InByteResult : Prop :=
  ∀ (s : State) (b : Byte), s.win = true →
    (s.icnt.toNat < s.cfg.payloadOffset.val →
        exec (.inByte b) s = .next { s with icnt := BitVec.ofNat 4 (s.icnt.toNat + 1), inSeq := s.inSeq ++ [b] })
      ∧ (∀ j : Fin 4, s.icnt.toNat = s.cfg.payloadOffset.val + j.val →
          exec (.inByte b) s =
            .next
              { s with
                ibuf := s.ibuf.set j.val b
                icnt := BitVec.ofNat 4 (s.icnt.toNat + 1)
                inSeq := s.inSeq ++ [b] })
      ∧ (s.cfg.payloadOffset.val + 4 ≤ s.icnt.toNat → exec (.inByte b) s = .next { s with inSeq := s.inSeq ++ [b] })

/-- WINDOW_END of a malformed window: no record, st Rejected, the class recorded (43_assembler.md §2 (R180); 60_exceptions.md §1, §4 (R241, R243, R250); notes/assumptions/10.md). The model's own, by log 10: the fault of the last clause. -/
def Obligations.WindowEndRejects : Prop :=
  ∀ s : State, s.win = true →
    (s.st = .awaitingFrame →
        exec .windowEnd s =
          .next { s with st := .rejected, win := false, recValid := false, cause := .malformedShort })
      ∧ (s.st = .rejected → s.obuf[0] ≠ s.cfg.startMarker →
          exec .windowEnd s = .next { s with win := false, recValid := false, cause := .malformedMarker })
      ∧ (s.st = .rejected → s.obuf[0] = s.cfg.startMarker →
          exec .windowEnd s = .next { s with win := false, recValid := false, cause := .malformedCommand })
      ∧ (s.st = .complete → exec .windowEnd s = .fault .windowEndInComplete)

/-- WINDOW_END of a recognised window emits the record of the buffered frame and payload (43_assembler.md §2 (R180, R181, R182); 30_encoding.md §5 (R100); 42_irq_decoder.md (R162)). -/
def Obligations.WindowEndEmits : Prop :=
  ∀ (s : State) (t : Argument), s.win = true → argumentBits t = s.obuf[2] ++ s.obuf[3] ++ s.obuf[4] ++ s.obuf[5] →
    let r (p : Option IrqPayload) : Transaction :=
      { argument := t
        functionLabel := s.cfg.funcLabel.lookup t.function
        addressLabel := s.cfg.addrLabel.lookup t.address
        category := classify s.cfg t.function t.address
        kind := txnKind s.cfg t.function t.address t.isWrite
        payload := p }
    let P : BitVec 32 := s.ibuf[3] ++ s.ibuf[2] ++ s.ibuf[1] ++ s.ibuf[0]
    let emitted (p : Option IrqPayload) (k : Cause) : State :=
      { s with st := .complete, win := false, record := r p, recValid := true, cause := k }
    (s.st = .frameRecognized → exec .windowEnd s = .next (emitted none .none))
      ∧ (s.st = .payloadPending → s.icnt.toNat = s.cfg.payloadOffset.val + 4 →
          exec .windowEnd s = .next (emitted (some ⟨P, P &&& s.cfg.irqDefinedMask⟩) .none))
      ∧ (s.st = .payloadPending → s.icnt.toNat ≠ s.cfg.payloadOffset.val + 4 →
          exec .windowEnd s = .next (emitted none .truncatedPayload))

/-- An event that breaks the interface contract has no step, refused by name (70_reset_and_hazards.md §3 (R290); 93_implementation_defined.md U1; notes/assumptions/9.md). The model's own, by log 9: the names of the refusals, and that a frame row needs win = 0. -/
def Obligations.ContractBreachesAreRefused : Prop :=
  (∀ s : State, s.win = true → exec .windowStart s = .refused .windowStartInWindow)
    ∧ (∀ (s : State) (b : Byte), s.win = false → exec (.outByte b) s = .refused .outByteOutsideWindow)
    ∧ (∀ (s : State) (b : Byte), s.win = false → exec (.inByte b) s = .refused .inByteOutsideWindow)
    ∧ (∀ s : State, s.win = false → exec .windowEnd s = .refused .windowEndOutsideWindow)
    ∧ (∀ (s : State) (i : Instr), s.win = true → (instrKind i).isSome = true → exec i s = .refused .windowInWindow)
    ∧ (∀ (s : State) (out inb : List Byte) (rest : List Input), s.win = true → s.input = .window out inb :: rest →
        step s = .refused .windowInWindow)

/-- CARD_RD and CARD_WR: a cardControl record without payload, however long the inbound sequence (43_assembler.md §4 (R191, R192); 10_state.md §2; 30_encoding.md §5 (R100); notes/assumptions/8.md). The model's own, by log 8: a frame row as a whole window in one step. -/
def Obligations.CardFramesEmit : Prop :=
  ∀ (s : State) (dir crc : Byte) (bm inc : Bool) (addr : BitVec 17) (cnt : BitVec 9), s.win = false →
    exec (.cardRd dir bm inc addr cnt crc) s =
        .next (afterFrame s dir ⟨false, 0#3, bm, inc, addr, cnt⟩ crc .cardControl .cardRd none .none)
      ∧ exec (.cardWr dir bm inc addr cnt crc) s =
        .next (afterFrame s dir ⟨true, 0#3, bm, inc, addr, cnt⟩ crc .cardControl .cardWr none .none)

/-- CMD53_RD and CMD53_WR, at a plain address and at the interrupt address of the other direction: no payload (43_assembler.md §4 (R193, R194); 10_state.md §2; 30_encoding.md §5 (R100); notes/assumptions/8.md). The model's own, by log 8: a frame row as a whole window in one step. -/
def Obligations.Cmd53FramesEmit : Prop :=
  ∀ (s : State) (dir crc : Byte) (fn : BitVec 3) (bm inc : Bool) (addr : BitVec 17) (cnt : BitVec 9), s.win = false →
    exec (.cmd53Rd dir fn bm inc addr cnt crc) s =
        .next (afterFrame s dir ⟨false, fn, bm, inc, addr, cnt⟩ crc .registerControl .cmd53Rd none .none)
      ∧ exec (.cmd53Wr dir fn bm inc addr cnt crc) s =
        .next (afterFrame s dir ⟨true, fn, bm, inc, addr, cnt⟩ crc .registerControl .cmd53Wr none .none)
      ∧ exec (.cmd53RdClear dir fn bm inc cnt crc) s =
        .next (afterFrame s dir ⟨false, fn, bm, inc, s.cfg.irqClearAddr, cnt⟩ crc .registerControl .cmd53Rd none .none)
      ∧ exec (.cmd53WrStatus dir fn bm inc cnt crc) s =
        .next (afterFrame s dir ⟨true, fn, bm, inc, s.cfg.irqStatusAddr, cnt⟩ crc .registerControl .cmd53Wr none .none)

/-- IRQ_RD and IRQ_CLR: the payload of the inbound bytes PAYLOAD_OFFSET to +3, or a truncated record (43_assembler.md §1, §4 (R174, R195, R196); 20_memory.md §2 (R58); 42_irq_decoder.md (R162); notes/assumptions/8.md). The model's own, by log 8: a frame row as a whole window in one step. -/
def Obligations.IrqFramesEmit : Prop :=
  ∀ (s : State) (dir crc : Byte) (fn : BitVec 3) (bm inc : Bool) (cnt : BitVec 9), s.win = false →
    let rd : Argument := ⟨false, fn, bm, inc, s.cfg.irqStatusAddr, cnt⟩
    let wr : Argument := ⟨true, fn, bm, inc, s.cfg.irqClearAddr, cnt⟩
    (∀ b0 b1 b2 b3 : Byte,
        s.inSeq[s.cfg.payloadOffset.val]? = some b0 → s.inSeq[s.cfg.payloadOffset.val + 1]? = some b1 →
        s.inSeq[s.cfg.payloadOffset.val + 2]? = some b2 → s.inSeq[s.cfg.payloadOffset.val + 3]? = some b3 →
        let P : BitVec 32 := b3 ++ b2 ++ b1 ++ b0
        exec (.irqRd dir fn bm inc cnt crc) s =
            .next (afterFrame s dir rd crc .registerControl .irqRd (some ⟨P, P &&& s.cfg.irqDefinedMask⟩) .none)
          ∧ exec (.irqClr dir fn bm inc cnt crc) s =
            .next (afterFrame s dir wr crc .registerControl .irqClr (some ⟨P, P &&& s.cfg.irqDefinedMask⟩) .none))
      ∧ (s.inSeq.length < s.cfg.payloadOffset.val + 4 →
          exec (.irqRd dir fn bm inc cnt crc) s =
              .next (afterFrame s dir rd crc .registerControl .irqRd none .truncatedPayload)
            ∧ exec (.irqClr dir fn bm inc cnt crc) s =
              .next (afterFrame s dir wr crc .registerControl .irqClr none .truncatedPayload))

/-- BULK_RD and BULK_WR: a bulkData record without payload, the count unscaled (43_assembler.md §4 (R197, R198); 10_state.md §2; 30_encoding.md §5 (R100); notes/assumptions/8.md). The model's own, by log 8: a frame row as a whole window in one step. -/
def Obligations.BulkFramesEmit : Prop :=
  ∀ (s : State) (dir crc : Byte) (bm inc : Bool) (addr : BitVec 17) (cnt : BitVec 9), s.win = false →
    exec (.bulkRd dir bm inc addr cnt crc) s =
        .next (afterFrame s dir ⟨false, 2#3, bm, inc, addr, cnt⟩ crc .bulkData .bulkRd none .none)
      ∧ exec (.bulkWr dir bm inc addr cnt crc) s =
        .next (afterFrame s dir ⟨true, 2#3, bm, inc, addr, cnt⟩ crc .bulkData .bulkWr none .none)

/-- A step executes the instruction decoded from the next input; with nothing delivered nothing changes (20_memory.md §6 (R66); 60_exceptions.md §6 (R258); 42_irq_decoder.md (R161); 43_assembler.md §1 (R171); notes/assumptions/3.md; notes/assumptions/4.md; notes/assumptions/8.md; notes/assumptions/5.md). The model's own, by log 3: the list of deliveries, one taken by each step, and the idle step. The model's own, by log 4: the two lists that the window clause sets. The model's own, by log 8: a whole window as one instruction. The model's own, by log 5: the scan clause, which moves the position past the bit and empties the report when it begins. -/
def Obligations.StepRunsTheDecodedInstruction : Prop :=
  ∀ (s : State) (i : Instr) (rest : List Input),
    (∀ e, s.input = .event e :: rest → decode s.cfg (.event10 e) = .ok i → step s = exec i { s with input := rest })
      ∧ (∀ out inb, s.input = .window out inb :: rest → decode s.cfg (.frame out) = .ok i →
          step s = exec i { s with input := rest, outSeq := out, inSeq := inb })
      ∧ (∀ v k, s.input = .irqScan v k :: rest → decode s.cfg (.pay32 ((v >>> k) <<< k)) = .ok i →
          ∃ n, n ∈ irqPositions s.cfg v ∧ k ≤ n ∧ (∀ m ∈ irqPositions s.cfg v, k ≤ m → n ≤ m)
            ∧ step s =
                exec i { s with irqOut := if k = 0 then [] else s.irqOut, input := .irqScan v (n + 1) :: rest })
      ∧ (s.input = [] → step s = .next s)

/-- PARSE_WINDOW rejects exactly the short window, the wrong marker and the wrong command byte (R172; R173). -/
def Obligations.ParseWindowCases : Prop :=
  ∀ (c : Config) (out inb : List Byte),
    (out.length < 7 → parseWindow c out inb = (none, .malformedShort))
      ∧ ∀ (m d b2 b3 b4 b5 b6 : Byte) (rest : List Byte), out = m :: d :: b2 :: b3 :: b4 :: b5 :: b6 :: rest →
          (m ≠ c.startMarker → parseWindow c out inb = (none, .malformedMarker))
            ∧ (m = c.startMarker → d &&& c.cmdMask ≠ c.cmdMatch → parseWindow c out inb = (none, .malformedCommand))
            ∧ (m = c.startMarker → d &&& c.cmdMask = c.cmdMatch →
                (∃ r k, parseWindow c out inb = (some r, k))
                  ∧ ∀ crc : Byte, parseWindow c (m :: d :: b2 :: b3 :: b4 :: b5 :: crc :: rest) inb = parseWindow c out inb)

/-- The payload fields are both present or both absent, and TruncatedPayload marks an IRQ kind that is too short (R174). -/
def Obligations.PayloadIsWholeOrAbsent : Prop :=
  (∀ (c : Config) (out inb : List Byte) (r : Transaction) (k : Cause), parseWindow c out inb = (some r, k) →
      (r.kind.irq = .none → r.payload = none ∧ k = .none)
        ∧ (r.kind.irq ≠ .none → inb.length < c.payloadOffset.val + 4 → r.payload = none ∧ k = .truncatedPayload)
        ∧ (r.kind.irq ≠ .none → c.payloadOffset.val + 4 ≤ inb.length → k = .none
            ∧ ∀ b0 b1 b2 b3 : Byte, (inb.drop c.payloadOffset.val).take 4 = [b0, b1, b2, b3] →
                let P : BitVec 32 := b3 ++ b2 ++ b1 ++ b0
                ∃ p, r.payload = some p ∧ p.decodedPayload = P ∧ p.activeMask = P &&& c.irqDefinedMask
                  ∧ activeInterruptNames c p = decodeIrqBits c P
                  ∧ (P &&& c.irqDefinedMask = 0#32 → activeInterruptNames c p = [])))
    ∧ Config.default.payloadOffset.val + 4 = 15

/-- One step on a whole window gives the record and the cause of PARSE_WINDOW (43_assembler.md §1 (R171); 30_encoding.md §6 (R102, R103); 60_exceptions.md §4 (R250); notes/assumptions/8.md). The model's own, by log 8: a whole window in one step. -/
def Obligations.WholeWindowStepIsParseWindow : Prop :=
  ∀ (s : State) (out inb : List Byte) (rest : List Input), s.win = false → s.input = .window out inb :: rest →
    ∃ t, step s = .next t ∧ (t.output, t.cause) = parseWindow s.cfg out inb
      ∧ t.st = (if t.output.isSome then .complete else .rejected) ∧ t.win = false ∧ t.cfg = s.cfg ∧ t.input = rest
      ∧ t.irqOut = s.irqOut ∧ t.freeCount = s.freeCount ∧ t.outSeq = out ∧ t.inSeq = inb

/-- The event machine and PARSE_WINDOW agree for every interleaving of the two channels (43_assembler.md §3 (R190)). The spec marks R190 as its own derivation. -/
def Obligations.EventsAgreeWithParseWindow : Prop :=
  ∀ (s : State) (bytes : List BusByte), s.win = false →
    ∃ t : State,
      Host.Core.run Sys2Proof.core (bytes.length + 2) ({ s with input := windowEvents bytes } : State) = .next t
        ∧ (t.output, t.cause) = parseWindow s.cfg (outBytes bytes) (inBytes bytes)
        ∧ (t.st = .complete ↔ t.recValid = true) ∧ (t.st = .rejected ↔ t.recValid = false)

/-- One step on a whole window leaves the state that its events leave, in any interleaving (43_assembler.md §1, §3 (R171, R190); 20_memory.md §6 (R67); notes/assumptions/8.md). The model's own, by log 8: a whole window in one step. -/
def Obligations.WholeWindowStepEqualsItsEvents : Prop :=
  ∀ (s : State) (bytes : List BusByte), s.win = false →
    ∃ t : State,
      Host.Core.run Sys2Proof.core (bytes.length + 2) ({ s with input := windowEvents bytes } : State) = .next t
        ∧ step { s with input := [.window (outBytes bytes) (inBytes bytes)] } = .next t

/-- What a window emits does not depend on anything that came before it (10_state.md §8 (R34); 60_exceptions.md §4 (R250); 70_reset_and_hazards.md §1 (R282)). -/
def Obligations.WindowsAreIndependent : Prop :=
  ∀ (s s' : State) (bytes bytes' : List BusByte), s.win = false → s'.win = false → s.cfg = s'.cfg →
    outBytes bytes = outBytes bytes' → inBytes bytes = inBytes bytes' →
    ∃ t t' : State,
      Host.Core.run Sys2Proof.core (bytes.length + 2) ({ s with input := windowEvents bytes } : State) = .next t
        ∧ Host.Core.run Sys2Proof.core (bytes'.length + 2) ({ s' with input := windowEvents bytes' } : State) = .next t'
        ∧ t.output = t'.output ∧ t.cause = t'.cause ∧ t.st = t'.st

/-- The CRC byte, later outbound bytes and inbound bytes outside the payload never change the output (30_encoding.md §7 (R107); 20_memory.md §1 (R51, R52, R53); 93_implementation_defined.md U9, U10). -/
def Obligations.UntestedBytesNeverMatter : Prop :=
  ∀ (c : Config) (out out' inb inb' : List Byte), 7 ≤ out.length → 7 ≤ out'.length → out.take 6 = out'.take 6 →
    (inb.drop c.payloadOffset.val).take 4 = (inb'.drop c.payloadOffset.val).take 4 →
    parseWindow c out inb = parseWindow c out' inb'

/-- The label and name tables change nothing of a window's outcome but the two labels (60_exceptions.md §1 (R245); 41_classifier.md (R147); 30_encoding.md §5 (R100); notes/assumptions/16.md). The model's own, by log 16: that the names are computed from the mask and stand outside the record, so that IRQ_NAME changes nothing. -/
def Obligations.LabelsNeverAffectClassification : Prop :=
  ∀ (c : Config) (f : List (BitVec 3 × String)) (a : List (BitVec 17 × String)) (n : List (Nat × String))
    (out inb : List Byte),
    let c' : Config := { c with funcLabel := f, addrLabel := a, irqName := n }
    (parseWindow c' out inb).2 = (parseWindow c out inb).2
      ∧ (parseWindow c' out inb).1 = (parseWindow c out inb).1.map fun r =>
          { r with functionLabel := f.lookup r.argument.function, addressLabel := a.lookup r.argument.address }

/-- The complete transition table of st, with the combinations that cannot arise (43_assembler.md §2 (R183)). The spec marks R183 as its own derivation. -/
def Obligations.TransitionTable : Prop :=
  ∀ s : State, Inv s →
    (s.win = false →
        (s.st = .awaitingFrame ∨ s.st = .rejected ∨ s.st = .complete)
          ∧ (∃ t, exec .windowStart s = .next t ∧ t.st = .awaitingFrame)
          ∧ ∀ (t : State) (b : Byte),
              exec (.outByte b) s ≠ .next t ∧ exec (.inByte b) s ≠ .next t ∧ exec .windowEnd s ≠ .next t)
      ∧ (s.win = true →
          s.st ≠ .complete ∧ (s.st = .awaitingFrame ↔ s.ocnt.toNat ≤ 6)
            ∧ (∀ t, exec .windowStart s ≠ .next t)
            ∧ (∀ b : Byte, ∃ t, exec (.outByte b) s = .next t
                ∧ (s.ocnt.toNat ≤ 5 → t.st = .awaitingFrame)
                ∧ (s.ocnt.toNat = 6 → t.st = .frameRecognized ∨ t.st = .payloadPending ∨ t.st = .rejected)
                ∧ (s.ocnt.toNat = 7 → t.st = s.st))
            ∧ (∀ b : Byte, ∃ t, exec (.inByte b) s = .next t ∧ t.st = s.st)
            ∧ ∃ t, exec .windowEnd s = .next t
                ∧ (s.st = .awaitingFrame ∨ s.st = .rejected → t.st = .rejected)
                ∧ (s.st = .frameRecognized ∨ s.st = .payloadPending → t.st = .complete))

/-- Rejected is left by WINDOW_START only (43_assembler.md §2 (R178)). The spec marks R178 as its own derivation. -/
def Obligations.RejectedIsAbsorbing : Prop :=
  ∀ s : State, Inv s → s.st = .rejected →
    (s.win = true →
        (∀ b : Byte, ∃ o, exec (.outByte b) s = .next { s with outSeq := o })
          ∧ (∀ b : Byte, ∃ n v i, exec (.inByte b) s = .next { s with icnt := n, ibuf := v, inSeq := i })
          ∧ ∃ t, exec .windowEnd s = .next t ∧ t.st = .rejected)
      ∧ ∀ (e : BitVec 10) (t : State), exec (decodeEvent e) s = .next t → t.st ≠ .rejected → decodeEvent e = .windowStart

/-- Every step keeps the invariant of the registers (10_state.md §9 (R36); 43_assembler.md §2 (R175 to R180); notes/assumptions/4.md). The model's own, by log 4: the lists of delivered bytes that R36 speaks of. -/
def Obligations.StepKeepsInvariant : Prop :=
  ∀ s t : State, Inv s → step s = .next t → Inv t

/-- The reset state meets the invariant (10_state.md §9, §10 (R36, R37); notes/assumptions/2.md). The model's own, by log 2: the default name table, for the last clause. -/
def Obligations.ResetMeetsInvariant : Prop :=
  Inv State.reset ∧ OutputCorrect State.reset ∧ State.reset.cfg.wf = true

/-- Between windows the outputs always are PARSE_WINDOW of the last window's bytes (43_assembler.md §3 (R190); 10_state.md §8 (R34); notes/assumptions/4.md). The model's own, by log 4: the lists of delivered bytes. -/
def Obligations.OutputIsParseWindowOfLastWindow : Prop :=
  ∀ s t : State, Inv s → OutputCorrect s → step s = .next t → Inv t ∧ OutputCorrect t

/-- An input that keeps the interface contract never makes the machine fault or refuse (70_reset_and_hazards.md §3 (R290, R294); 60_exceptions.md §1 (R243); 10_state.md §9 (R36); notes/assumptions/3.md). The model's own, by log 3: the list of deliveries. -/
def Obligations.ContractRunsNeverStop : Prop :=
  ∀ (s : State) (k : Nat), Inv s → contract s.win s.input = true →
    ∃ t : State, Host.Core.run Sys2Proof.core k s = .next t ∧ Inv t ∧ contract t.win t.input = true

/-- No step writes the configuration (held in the state by the model's choice, log 1) (10_state.md §1, §5 (R20, R30); 20_memory.md §6 (R70); notes/assumptions/1.md). -/
def Obligations.ConfigurationIsNeverWritten : Prop :=
  ∀ s t : State, step s = .next t → t.cfg = s.cfg

/-- A record becomes valid only at a WINDOW_END or at the end of a whole window (43_assembler.md §2 (R182); 10_state.md §2 (R25); notes/assumptions/8.md). The model's own, by log 8: a whole window in one step. -/
def Obligations.RecordAppearsOnlyAtWindowEnd : Prop :=
  ∀ s t : State, step s = .next t → s.recValid = false → t.recValid = true →
    ((∃ e rest, s.input = .event e :: rest ∧ decodeEvent e = .windowEnd) ∨ ∃ out inb rest, s.input = .window out inb :: rest)
      ∧ t.st = .complete ∧ t.win = false

/-- A valid record stays as it is until the next window begins or a reset comes (10_state.md §2 (R25); 70_reset_and_hazards.md §3 (R293); 20_memory.md §4 (R64); notes/assumptions/8.md). The model's own, by log 8: a whole window in one step. -/
def Obligations.RecordIsHeldUntilNextWindow : Prop :=
  ∀ s t : State, Inv s → s.recValid = true → step s = .next t →
    (t.record = s.record ∧ t.recValid = true ∧ t.cause = s.cause)
      ∨ (∃ e rest, s.input = .event e :: rest ∧ decodeEvent e = .windowStart ∧ t.recValid = false)
      ∨ (∃ out inb rest, s.input = .window out inb :: rest)
      ∨ ∃ rest, s.input = .reset :: rest

/-- The values reset gives the registers, and the first event accepted after it (R37). -/
def Obligations.ResetValues : Prop :=
  State.reset.st = .awaitingFrame ∧ State.reset.win = false ∧ State.reset.ocnt = 0#3 ∧ State.reset.icnt = 0#4
    ∧ State.reset.recValid = false ∧ State.reset.cause = .none
    ∧ (∃ t, exec .windowStart State.reset = .next t)
    ∧ ∀ (e : BitVec 10) (t : State), exec (decodeEvent e) State.reset = .next t → decodeEvent e = .windowStart

/-- A reset in the middle of anything gives the reset registers, emits nothing and reports no cause (70_reset_and_hazards.md §1 (R280, R281); 10_state.md §10 (R37); notes/assumptions/7.md). The model's own, by log 7: reset as a delivery, and what it leaves alone. -/
def Obligations.ResetInputAbandonsTheWindow : Prop :=
  ∀ (s : State) (rest : List Input), s.input = .reset :: rest →
    ∃ t, step s = .next t ∧ t.st = .awaitingFrame ∧ t.win = false ∧ t.ocnt = 0#3 ∧ t.icnt = 0#4 ∧ t.recValid = false
      ∧ t.cause = .none ∧ t.output = none ∧ t.cfg = s.cfg ∧ t.input = rest ∧ t.irqOut = s.irqOut

/-- The bit positions of the 102-bit record word (30_encoding.md §5 (R100, R101); 93_implementation_defined.md U4; notes/assumptions/16.md). The model's own, by log 16: the unspecified bits as a free argument. -/
def Obligations.RecordWordLayout : Prop :=
  ∀ (absent : BitVec 64) (r : Transaction),
    let w := recWord absent r
    w.extractLsb' 0 32 = argumentBits r.argument
      ∧ w.extractLsb' 0 9 = r.argument.count ∧ w.extractLsb' 9 17 = r.argument.address
      ∧ w.getLsbD 26 = r.argument.incrementAddressing ∧ w.getLsbD 27 = r.argument.blockMode
      ∧ w.extractLsb' 28 3 = r.argument.function ∧ w.getLsbD 31 = r.argument.isWrite
      ∧ w.extractLsb' 32 2 = r.category.code ∧ w.extractLsb' 34 3 = r.kind.code
      ∧ (w.extractLsb' 32 2).toNat =
          (match r.category with | .cardControl => 0 | .registerControl => 1 | .bulkData => 2)
      ∧ (w.extractLsb' 34 3).toNat =
          (match r.kind with
            | .cardRd => 0 | .cardWr => 1 | .cmd53Rd => 2 | .cmd53Wr => 3 | .irqRd => 4 | .irqClr => 5 | .bulkRd => 6
            | .bulkWr => 7)
      ∧ w.getLsbD 37 = r.payload.isSome
      ∧ (∀ p, r.payload = some p → w.extractLsb' 38 32 = p.decodedPayload ∧ w.extractLsb' 70 32 = p.activeMask)
      ∧ (r.payload = none → w.extractLsb' 38 64 = absent)

/-- The five display templates, for every record of each kind (44_display.md (R220 to R226); 41_classifier.md DISPLAY_SIZE (R149); notes/assumptions/18.md). The model's own, by log 18: the parameter RenderStyle. -/
def Obligations.DisplayTemplates : Prop :=
  ∀ (c : Config) (y : RenderStyle) (r : Transaction), c.blockSize = 512 →
    let a := r.argument
    let rw := if a.isWrite then "WR" else "RD"
    let modes := (if a.blockMode then "Block" else "Byte") ++ "," ++ (if a.incrementAddressing then "Incr" else "Fixed")
    (r.kind = .cardRd ∨ r.kind = .cardWr →
        render c y r = "CARD: " ++ y.label r ++ " | Addr:" ++ hexText y a.address ++ " "
          ++ (if a.isWrite then "Write" else "Read") ++ " Cnt:" ++ y.countText a.count)
      ∧ (r.kind = .cmd53Rd ∨ r.kind = .cmd53Wr →
          render c y r = "CMD53 " ++ rw ++ ": " ++ y.label r ++ " | Addr:" ++ hexText y a.address ++ " Cnt:"
            ++ y.countText a.count ++ " " ++ modes)
      ∧ (r.kind = .irqRd →
          render c y r = "IRQ RD: " ++ y.label r ++ " | " ++ addressText y a.address ++ " [" ++ namesText c y r ++ "]"
            ∧ (a.address = 0x06050#17 →
                render c y r = "IRQ RD: " ++ y.label r ++ " | 0x6050" ++ (" [" ++ namesText c y r ++ "]")))
      ∧ (r.kind = .irqClr → ∀ p, r.payload = some p →
          (hex8 y.capitals p.decodedPayload).length = 8
            ∧ render c y r = "IRQ CLR: " ++ y.label r ++ " | " ++ addressText y a.address ++ " (val:"
                ++ ((if y.valueLead then "0x" else "") ++ hex8 y.capitals p.decodedPayload) ++ ") [" ++ namesText c y r
                ++ "]")
      ∧ (r.kind = .irqClr → r.payload = none →
          render c y r = "IRQ CLR: " ++ y.label r ++ " | " ++ addressText y a.address ++ " (val:" ++ y.absentValue
            ++ ") [" ++ namesText c y r ++ "]")
      ∧ (r.kind = .bulkRd ∨ r.kind = .bulkWr →
          render c y r = "BULK " ++ rw ++ ": " ++ y.label r ++ " | " ++ addressText y a.address ++ " ["
            ++ Nat.repr (if a.blockMode then a.count.toNat * 512 else a.count.toNat) ++ " bytes] " ++ modes)
      ∧ (r.payload = none → namesText c y r = y.absentNames)
      ∧ (∀ p, r.payload = some p → decodeIrqBits c p.activeMask = [] → namesText c y r = y.noneMarker)
      ∧ (∀ p, r.payload = some p → decodeIrqBits c p.activeMask ≠ [] →
          namesText c y r = y.separator.intercalate (decodeIrqBits c p.activeMask))

/-- The address text is hexadecimal of the address; <addr-hex> carries 0x, and 0x6050 is written so in every style (44_display.md (R221, R222, R223, R227); notes/assumptions/18.md). The model's own, by log 18: the parameter RenderStyle. -/
def Obligations.AddressTextIsHexadecimal : Prop :=
  (∀ (least : Nat) (a : BitVec 17),
      (addressDigits least a).foldl (fun v d => 16 * v + d.toNat) 0 = a.toNat
        ∧ max 1 least ≤ (addressDigits least a).length
        ∧ (max 1 least < (addressDigits least a).length → (addressDigits least a).head? ≠ some 0#4))
    ∧ (∀ d : BitVec 4,
        some (hexDigit true d) =
            ["0", "1", "2", "3", "4", "5", "6", "7", "8", "9", "A", "B", "C", "D", "E", "F"][d.toNat]?
          ∧ some (hexDigit false d) =
            ["0", "1", "2", "3", "4", "5", "6", "7", "8", "9", "a", "b", "c", "d", "e", "f"][d.toNat]?)
    ∧ (∀ (y : RenderStyle) (a : BitVec 17),
        addressText y a = "0x" ++ String.join ((addressDigits y.addressPadding.val a).map (hexDigit y.addressCapitals))
          ∧ hexText y a =
            (if y.hexLead then "0x" else "") ++ String.join ((addressDigits y.hexPadding a).map (hexDigit y.hexCapitals)))
    ∧ ∀ y : RenderStyle, addressText y 0x06050#17 = "0x6050"

/-- The numeric codes of st, cause and category, which are all the values there are (10_state.md §2, §3 (R26, R27); 60_exceptions.md §1 (R241); 30_encoding.md §5 (R100); notes/assumptions/16.md). The model's own, by log 16: the enumerated types. -/
def Obligations.CodesOfTheEnumerations : Prop :=
  ([FsmState.awaitingFrame, .frameRecognized, .payloadPending, .complete, .rejected].map fun x => x.code.toNat) =
      [0, 1, 2, 3, 4]
    ∧ (∀ x : FsmState, x ∈ [FsmState.awaitingFrame, .frameRecognized, .payloadPending, .complete, .rejected])
    ∧ ([Cause.none, .malformedShort, .malformedMarker, .malformedCommand, .truncatedPayload].map
        fun x => (x.code.toNat, x.isMalformed)) = [(0, false), (1, true), (2, true), (3, true), (4, false)]
    ∧ (∀ x : Cause, x ∈ [Cause.none, .malformedShort, .malformedMarker, .malformedCommand, .truncatedPayload])
    ∧ ([Category.cardControl, .registerControl, .bulkData].map fun x => x.code.toNat) = [0, 1, 2]
    ∧ ∀ x : Category, x ∈ [Category.cardControl, .registerControl, .bulkData]
end

