-- ==== Sys2Proof/Laws/State.lean ====
section
/-! SUPPORT. One lemma for each field and each named update of the state, true by unfolding the update once. -/

namespace Sys2Proof.Machine

variable (s : State)

@[simp] theorem State.openWindow_st : (s.openWindow).st = .awaitingFrame := rfl
@[simp] theorem State.openWindow_win : (s.openWindow).win = true := rfl
@[simp] theorem State.openWindow_ocnt : (s.openWindow).ocnt = 0#3 := rfl
@[simp] theorem State.openWindow_obuf : (s.openWindow).obuf = s.obuf := rfl
@[simp] theorem State.openWindow_icnt : (s.openWindow).icnt = 0#4 := rfl
@[simp] theorem State.openWindow_ibuf : (s.openWindow).ibuf = s.ibuf := rfl
@[simp] theorem State.openWindow_recValid : (s.openWindow).recValid = false := rfl
@[simp] theorem State.openWindow_record : (s.openWindow).record = s.record := rfl
@[simp] theorem State.openWindow_cause : (s.openWindow).cause = .none := rfl
@[simp] theorem State.openWindow_cfg : (s.openWindow).cfg = s.cfg := rfl
@[simp] theorem State.openWindow_input : (s.openWindow).input = s.input := rfl
@[simp] theorem State.openWindow_outSeq : (s.openWindow).outSeq = [] := rfl
@[simp] theorem State.openWindow_inSeq : (s.openWindow).inSeq = [] := rfl
@[simp] theorem State.openWindow_irqOut : (s.openWindow).irqOut = s.irqOut := rfl
@[simp] theorem State.openWindow_freeCount : (s.openWindow).freeCount = s.freeCount := rfl

@[simp] theorem State.enterRejected_st : (s.enterRejected).st = .rejected := rfl
@[simp] theorem State.enterRejected_win : (s.enterRejected).win = s.win := rfl
@[simp] theorem State.enterRejected_ocnt : (s.enterRejected).ocnt = s.ocnt := rfl
@[simp] theorem State.enterRejected_obuf : (s.enterRejected).obuf = s.obuf := rfl
@[simp] theorem State.enterRejected_icnt : (s.enterRejected).icnt = s.icnt := rfl
@[simp] theorem State.enterRejected_ibuf : (s.enterRejected).ibuf = s.ibuf := rfl
@[simp] theorem State.enterRejected_recValid : (s.enterRejected).recValid = s.recValid := rfl
@[simp] theorem State.enterRejected_record : (s.enterRejected).record = s.record := rfl
@[simp] theorem State.enterRejected_cause : (s.enterRejected).cause = s.cause := rfl
@[simp] theorem State.enterRejected_cfg : (s.enterRejected).cfg = s.cfg := rfl
@[simp] theorem State.enterRejected_input : (s.enterRejected).input = s.input := rfl
@[simp] theorem State.enterRejected_outSeq : (s.enterRejected).outSeq = s.outSeq := rfl
@[simp] theorem State.enterRejected_inSeq : (s.enterRejected).inSeq = s.inSeq := rfl
@[simp] theorem State.enterRejected_irqOut : (s.enterRejected).irqOut = s.irqOut := rfl
@[simp] theorem State.enterRejected_freeCount : (s.enterRejected).freeCount = s.freeCount := rfl

@[simp] theorem State.takeMalformed_st (k : Cause) : (s.takeMalformed k).st = .rejected := rfl
@[simp] theorem State.takeMalformed_win (k : Cause) : (s.takeMalformed k).win = false := rfl
@[simp] theorem State.takeMalformed_ocnt (k : Cause) : (s.takeMalformed k).ocnt = s.ocnt := rfl
@[simp] theorem State.takeMalformed_obuf (k : Cause) : (s.takeMalformed k).obuf = s.obuf := rfl
@[simp] theorem State.takeMalformed_icnt (k : Cause) : (s.takeMalformed k).icnt = s.icnt := rfl
@[simp] theorem State.takeMalformed_ibuf (k : Cause) : (s.takeMalformed k).ibuf = s.ibuf := rfl
@[simp] theorem State.takeMalformed_recValid (k : Cause) : (s.takeMalformed k).recValid = false := rfl
@[simp] theorem State.takeMalformed_record (k : Cause) : (s.takeMalformed k).record = s.record := rfl
@[simp] theorem State.takeMalformed_cause (k : Cause) : (s.takeMalformed k).cause = k := rfl
@[simp] theorem State.takeMalformed_cfg (k : Cause) : (s.takeMalformed k).cfg = s.cfg := rfl
@[simp] theorem State.takeMalformed_input (k : Cause) : (s.takeMalformed k).input = s.input := rfl
@[simp] theorem State.takeMalformed_outSeq (k : Cause) : (s.takeMalformed k).outSeq = s.outSeq := rfl
@[simp] theorem State.takeMalformed_inSeq (k : Cause) : (s.takeMalformed k).inSeq = s.inSeq := rfl
@[simp] theorem State.takeMalformed_irqOut (k : Cause) : (s.takeMalformed k).irqOut = s.irqOut := rfl
@[simp] theorem State.takeMalformed_freeCount (k : Cause) : (s.takeMalformed k).freeCount = s.freeCount := rfl

@[simp] theorem State.emit_st (r : Transaction) (k : Cause) : (s.emit r k).st = .complete := rfl
@[simp] theorem State.emit_win (r : Transaction) (k : Cause) : (s.emit r k).win = false := rfl
@[simp] theorem State.emit_ocnt (r : Transaction) (k : Cause) : (s.emit r k).ocnt = s.ocnt := rfl
@[simp] theorem State.emit_obuf (r : Transaction) (k : Cause) : (s.emit r k).obuf = s.obuf := rfl
@[simp] theorem State.emit_icnt (r : Transaction) (k : Cause) : (s.emit r k).icnt = s.icnt := rfl
@[simp] theorem State.emit_ibuf (r : Transaction) (k : Cause) : (s.emit r k).ibuf = s.ibuf := rfl
@[simp] theorem State.emit_recValid (r : Transaction) (k : Cause) : (s.emit r k).recValid = true := rfl
@[simp] theorem State.emit_record (r : Transaction) (k : Cause) : (s.emit r k).record = r := rfl
@[simp] theorem State.emit_cause (r : Transaction) (k : Cause) : (s.emit r k).cause = k := rfl
@[simp] theorem State.emit_cfg (r : Transaction) (k : Cause) : (s.emit r k).cfg = s.cfg := rfl
@[simp] theorem State.emit_input (r : Transaction) (k : Cause) : (s.emit r k).input = s.input := rfl
@[simp] theorem State.emit_outSeq (r : Transaction) (k : Cause) : (s.emit r k).outSeq = s.outSeq := rfl
@[simp] theorem State.emit_inSeq (r : Transaction) (k : Cause) : (s.emit r k).inSeq = s.inSeq := rfl
@[simp] theorem State.emit_irqOut (r : Transaction) (k : Cause) : (s.emit r k).irqOut = s.irqOut := rfl
@[simp] theorem State.emit_freeCount (r : Transaction) (k : Cause) : (s.emit r k).freeCount = s.freeCount := rfl

@[simp] theorem State.loadWindow_st (out inb : List Byte) : (s.loadWindow out inb).st = s.st := rfl
@[simp] theorem State.loadWindow_win (out inb : List Byte) : (s.loadWindow out inb).win = s.win := rfl
@[simp] theorem State.loadWindow_ocnt (out inb : List Byte) : (s.loadWindow out inb).ocnt = s.ocnt := rfl
@[simp] theorem State.loadWindow_obuf (out inb : List Byte) : (s.loadWindow out inb).obuf = s.obuf := rfl
@[simp] theorem State.loadWindow_icnt (out inb : List Byte) : (s.loadWindow out inb).icnt = s.icnt := rfl
@[simp] theorem State.loadWindow_ibuf (out inb : List Byte) : (s.loadWindow out inb).ibuf = s.ibuf := rfl
@[simp] theorem State.loadWindow_recValid (out inb : List Byte) : (s.loadWindow out inb).recValid = s.recValid := rfl
@[simp] theorem State.loadWindow_record (out inb : List Byte) : (s.loadWindow out inb).record = s.record := rfl
@[simp] theorem State.loadWindow_cause (out inb : List Byte) : (s.loadWindow out inb).cause = s.cause := rfl
@[simp] theorem State.loadWindow_cfg (out inb : List Byte) : (s.loadWindow out inb).cfg = s.cfg := rfl
@[simp] theorem State.loadWindow_input (out inb : List Byte) : (s.loadWindow out inb).input = s.input := rfl
@[simp] theorem State.loadWindow_outSeq (out inb : List Byte) : (s.loadWindow out inb).outSeq = out := rfl
@[simp] theorem State.loadWindow_inSeq (out inb : List Byte) : (s.loadWindow out inb).inSeq = inb := rfl
@[simp] theorem State.loadWindow_irqOut (out inb : List Byte) : (s.loadWindow out inb).irqOut = s.irqOut := rfl
@[simp] theorem State.loadWindow_freeCount (out inb : List Byte) : (s.loadWindow out inb).freeCount = s.freeCount := rfl

@[simp] theorem State.absorbOut_st : (s.absorbOut).st = s.st := rfl
@[simp] theorem State.absorbOut_win : (s.absorbOut).win = s.win := rfl
@[simp] theorem State.absorbOut_ocnt : (s.absorbOut).ocnt = BitVec.ofNat 3 (min frameLen s.outSeq.length) := rfl
@[simp] theorem State.absorbOut_obuf : (s.absorbOut).obuf = fillFrom s.obuf 0 s.outSeq := rfl
@[simp] theorem State.absorbOut_icnt : (s.absorbOut).icnt = s.icnt := rfl
@[simp] theorem State.absorbOut_ibuf : (s.absorbOut).ibuf = s.ibuf := rfl
@[simp] theorem State.absorbOut_recValid : (s.absorbOut).recValid = s.recValid := rfl
@[simp] theorem State.absorbOut_record : (s.absorbOut).record = s.record := rfl
@[simp] theorem State.absorbOut_cause : (s.absorbOut).cause = s.cause := rfl
@[simp] theorem State.absorbOut_cfg : (s.absorbOut).cfg = s.cfg := rfl
@[simp] theorem State.absorbOut_input : (s.absorbOut).input = s.input := rfl
@[simp] theorem State.absorbOut_outSeq : (s.absorbOut).outSeq = s.outSeq := rfl
@[simp] theorem State.absorbOut_inSeq : (s.absorbOut).inSeq = s.inSeq := rfl
@[simp] theorem State.absorbOut_irqOut : (s.absorbOut).irqOut = s.irqOut := rfl
@[simp] theorem State.absorbOut_freeCount : (s.absorbOut).freeCount = s.freeCount := rfl

@[simp] theorem State.absorbIn_st : (s.absorbIn).st = s.st := rfl
@[simp] theorem State.absorbIn_win : (s.absorbIn).win = s.win := rfl
@[simp] theorem State.absorbIn_ocnt : (s.absorbIn).ocnt = s.ocnt := rfl
@[simp] theorem State.absorbIn_obuf : (s.absorbIn).obuf = s.obuf := rfl
@[simp] theorem State.absorbIn_icnt : (s.absorbIn).icnt = BitVec.ofNat 4 (min s.cfg.payloadEnd s.inSeq.length) := rfl
@[simp] theorem State.absorbIn_ibuf : (s.absorbIn).ibuf = fillFrom s.ibuf 0 (s.inSeq.drop s.cfg.payloadOffset.val) := rfl
@[simp] theorem State.absorbIn_recValid : (s.absorbIn).recValid = s.recValid := rfl
@[simp] theorem State.absorbIn_record : (s.absorbIn).record = s.record := rfl
@[simp] theorem State.absorbIn_cause : (s.absorbIn).cause = s.cause := rfl
@[simp] theorem State.absorbIn_cfg : (s.absorbIn).cfg = s.cfg := rfl
@[simp] theorem State.absorbIn_input : (s.absorbIn).input = s.input := rfl
@[simp] theorem State.absorbIn_outSeq : (s.absorbIn).outSeq = s.outSeq := rfl
@[simp] theorem State.absorbIn_inSeq : (s.absorbIn).inSeq = s.inSeq := rfl
@[simp] theorem State.absorbIn_irqOut : (s.absorbIn).irqOut = s.irqOut := rfl
@[simp] theorem State.absorbIn_freeCount : (s.absorbIn).freeCount = s.freeCount := rfl

@[simp] theorem State.reportIrq_st (n : Nat) : (s.reportIrq n).st = s.st := rfl
@[simp] theorem State.reportIrq_win (n : Nat) : (s.reportIrq n).win = s.win := rfl
@[simp] theorem State.reportIrq_ocnt (n : Nat) : (s.reportIrq n).ocnt = s.ocnt := rfl
@[simp] theorem State.reportIrq_obuf (n : Nat) : (s.reportIrq n).obuf = s.obuf := rfl
@[simp] theorem State.reportIrq_icnt (n : Nat) : (s.reportIrq n).icnt = s.icnt := rfl
@[simp] theorem State.reportIrq_ibuf (n : Nat) : (s.reportIrq n).ibuf = s.ibuf := rfl
@[simp] theorem State.reportIrq_recValid (n : Nat) : (s.reportIrq n).recValid = s.recValid := rfl
@[simp] theorem State.reportIrq_record (n : Nat) : (s.reportIrq n).record = s.record := rfl
@[simp] theorem State.reportIrq_cause (n : Nat) : (s.reportIrq n).cause = s.cause := rfl
@[simp] theorem State.reportIrq_cfg (n : Nat) : (s.reportIrq n).cfg = s.cfg := rfl
@[simp] theorem State.reportIrq_input (n : Nat) : (s.reportIrq n).input = s.input := rfl
@[simp] theorem State.reportIrq_outSeq (n : Nat) : (s.reportIrq n).outSeq = s.outSeq := rfl
@[simp] theorem State.reportIrq_inSeq (n : Nat) : (s.reportIrq n).inSeq = s.inSeq := rfl
@[simp] theorem State.reportIrq_irqOut (n : Nat) : (s.reportIrq n).irqOut = s.irqOut ++ [n] := rfl
@[simp] theorem State.reportIrq_freeCount (n : Nat) : (s.reportIrq n).freeCount = s.freeCount := rfl

@[simp] theorem State.resetRegisters_st : (s.resetRegisters).st = .awaitingFrame := rfl
@[simp] theorem State.resetRegisters_win : (s.resetRegisters).win = false := rfl
@[simp] theorem State.resetRegisters_ocnt : (s.resetRegisters).ocnt = 0#3 := rfl
@[simp] theorem State.resetRegisters_icnt : (s.resetRegisters).icnt = 0#4 := rfl
@[simp] theorem State.resetRegisters_recValid : (s.resetRegisters).recValid = false := rfl
@[simp] theorem State.resetRegisters_record : (s.resetRegisters).record = Config.freeTransaction s.freeCount := rfl
@[simp] theorem State.resetRegisters_cause : (s.resetRegisters).cause = .none := rfl
@[simp] theorem State.resetRegisters_cfg : (s.resetRegisters).cfg = s.cfg := rfl
@[simp] theorem State.resetRegisters_input : (s.resetRegisters).input = s.input := rfl
@[simp] theorem State.resetRegisters_outSeq : (s.resetRegisters).outSeq = [] := rfl
@[simp] theorem State.resetRegisters_inSeq : (s.resetRegisters).inSeq = [] := rfl
@[simp] theorem State.resetRegisters_irqOut : (s.resetRegisters).irqOut = s.irqOut := rfl
@[simp] theorem State.resetRegisters_freeCount : (s.resetRegisters).freeCount = s.freeCount + 11 := rfl

end Sys2Proof.Machine
end

