-- ==== Sys2Proof/Laws/Ops.lean ====
section
/-! SUPPORT. For each shared operation, what it can do, said once: which fields it leaves alone, and its cases. -/

namespace Sys2Proof.Machine

open Sys2Proof

variable {s t : State}

/-! ### Filling a buffer -/

theorem fillFrom_getElem? {n : Nat} (bs : List Byte) : ∀ (v : Vector Byte n) (i k : Nat),
    (fillFrom v i bs)[k]? = if i ≤ k ∧ k < i + bs.length ∧ k < n then bs[k - i]? else v[k]? := by
  induction bs with
  | nil => intro v i k; simp only [fillFrom, List.length_nil]; rw [if_neg (by omega)]
  | cons b bs ih =>
    intro v i k
    simp only [fillFrom, ih, List.length_cons]
    by_cases hk : k < n
    · by_cases h1 : i + 1 ≤ k ∧ k < i + 1 + bs.length
      · rw [if_pos ⟨h1.1, h1.2, hk⟩, if_pos (by omega)]
        obtain ⟨d, hd⟩ : ∃ d, k - i = d + 1 := ⟨k - i - 1, by omega⟩
        rw [hd, show k - (i + 1) = d by omega, List.getElem?_cons_succ]
      · rw [if_neg (by omega)]
        by_cases h2 : i = k
        · subst h2
          rw [if_pos (by omega)]
          simp [hk]
        · rw [if_neg (by omega)]
          simp [h2]
    · rw [if_neg (by omega), if_neg (by omega)]
      simp [hk]

/-! ### The capture of a byte -/

/-- A complete frame leads to one of three states of the state machine. -/
theorem frameState_cases (c : Config) (v : Vector Byte 7) :
    frameState c v = .rejected ∨ frameState c v = .frameRecognized ∨ frameState c v = .payloadPending := by
  unfold frameState
  split
  · exact .inl rfl
  · exact .inl rfl
  · dsimp only
    split
    · exact .inr (.inl rfl)
    · exact .inr (.inr rfl)

/-- The frame evaluation moves the state machine and nothing else. -/
theorem State.evaluateFrame_eq (s : State) : s.evaluateFrame = { s with st := frameState s.cfg s.obuf } := by
  unfold State.evaluateFrame
  split
  case h_1 h => rw [h]; rfl
  case h_2 => rfl

/-- What the capture of an outbound byte can do: nothing, once seven have been seen; else store and count it, and at
the seventh set the state machine to what the frame evaluates to. -/
theorem State.captureOut_cases (s : State) (b : Byte) :
    (s.ocnt.toNat = 7 ∧ s.captureOut b = s)
      ∨ (s.ocnt.toNat < 6
          ∧ s.captureOut b = { s with obuf := s.obuf.setIfInBounds s.ocnt.toNat b, ocnt := s.ocnt + 1#3 })
      ∨ (s.ocnt.toNat = 6
          ∧ s.captureOut b =
              { s with
                obuf := s.obuf.setIfInBounds 6 b
                ocnt := 7#3
                st := frameState s.cfg (s.obuf.setIfInBounds 6 b) }) := by
  have hlt := s.ocnt.isLt
  by_cases h7 : s.ocnt.toNat = 7
  · left; exact ⟨h7, by simp [State.captureOut, frameLen, h7]⟩
  · by_cases h6 : s.ocnt.toNat = 6
    · right; right
      have he : s.ocnt = 6#3 := BitVec.eq_of_toNat_eq (by simpa using h6)
      refine ⟨h6, ?_⟩
      simp [State.captureOut, frameLen, he, State.evaluateFrame_eq]
    · right; left
      refine ⟨by omega, ?_⟩
      have h1 : s.ocnt.toNat < 7 := by omega
      have h2 : (s.ocnt.toNat + 1) % 8 ≠ 7 := by omega
      simp [State.captureOut, frameLen, h1, h2]

/-- What the capture of an inbound byte can do: count it; store and count it; nothing, once saturated. -/
theorem State.captureIn_cases (s : State) (b : Byte) :
    (s.icnt.toNat < s.cfg.payloadOffset.val ∧ s.captureIn b = { s with icnt := s.icnt + 1#4 })
      ∨ (s.cfg.payloadOffset.val ≤ s.icnt.toNat ∧ s.icnt.toNat < s.cfg.payloadEnd
          ∧ s.captureIn b =
              { s with
                ibuf := s.ibuf.setIfInBounds (s.icnt.toNat - s.cfg.payloadOffset.val) b
                icnt := s.icnt + 1#4 })
      ∨ (s.cfg.payloadEnd ≤ s.icnt.toNat ∧ s.captureIn b = s) := by
  have he : s.cfg.payloadEnd = s.cfg.payloadOffset.val + 4 := rfl
  by_cases h1 : s.icnt.toNat < s.cfg.payloadOffset.val
  · have h2 : s.icnt.toNat < s.cfg.payloadEnd := by omega
    exact .inl ⟨h1, by simp [State.captureIn, h2, Nat.not_le.mpr h1]⟩
  · by_cases h2 : s.icnt.toNat < s.cfg.payloadEnd
    · exact .inr (.inl ⟨by omega, h2, by simp [State.captureIn, h2, Nat.not_lt.mp h1]⟩)
    · exact .inr (.inr ⟨by omega, by simp [State.captureIn, h2]⟩)

/-! ### Closing a window and running a frame -/

/-- What closing a window can do: one of the two rejections, or the emission of a record. -/
theorem State.closeWindow_next (h : s.closeWindow = .next t) :
    (s.st = .awaitingFrame ∧ t = s.takeMalformed .malformedShort)
      ∨ (s.st = .rejected
          ∧ t = s.takeMalformed (if s.obuf[0] ≠ s.cfg.startMarker then .malformedMarker else .malformedCommand))
      ∨ ((s.st = .frameRecognized ∨ s.st = .payloadPending)
          ∧ t = s.emit (classifiedRecord s.cfg (decodeArgument (obufArgument s.obuf)) s.capturedPayload)
              (if s.st = .payloadPending ∧ s.icnt.toNat ≠ s.cfg.payloadEnd then .truncatedPayload else .none)) := by
  unfold State.closeWindow at h
  split at h
  case h_1 e => exact .inl ⟨e, by cases h; rfl⟩
  case h_2 e => exact .inr (.inl ⟨e, by cases h; rfl⟩)
  case h_3 e => exact .inr (.inr ⟨.inl e, by cases h; simp [e]⟩)
  case h_4 e => exact .inr (.inr ⟨.inr e, by cases h; simp [e]⟩)
  case h_5 => cases h

/-- What a frame row can do: with no window open, emit its record; it never faults. -/
theorem State.runFrame_next {dir : Byte} {a : Argument} {crc : Byte} {cat : Category} {k : Kind} {irq : IrqKind}
    (h : s.runFrame dir a crc cat k irq = .next t) :
    s.win = false
      ∧ t = (({ s.absorbIn with ocnt := 7#3, obuf := frameBuffer s.cfg dir a crc } : State).emit
          (mkRecord s.cfg a cat k (windowPayload s.cfg irq s.inSeq).1) (windowPayload s.cfg irq s.inSeq).2) := by
  unfold State.runFrame at h
  split at h
  case isTrue => cases h
  case isFalse hw => exact ⟨by simpa using hw, by cases h; rfl⟩

/-! ### Instructions -/

/-- What an instruction that goes on can have done: one of the four events, a frame row, or a row of the interrupt
bit table. -/
theorem exec_next {i : Instr} (h : exec i s = .next t) :
    (i = .windowStart ∧ s.win = false ∧ t = s.openWindow)
      ∨ (∃ b, i = .outByte b ∧ s.win = true ∧ t = s.receiveOut b)
      ∨ (∃ b, i = .inByte b ∧ s.win = true ∧ t = s.receiveIn b)
      ∨ (i = .windowEnd ∧ s.win = true ∧ s.closeWindow = .next t)
      ∨ (∃ dir a crc cat k irq, instrKind i = some k ∧ s.runFrame dir a crc cat k irq = .next t)
      ∨ (∃ n, (n, i) ∈ irqRows ∧ t = s.reportIrq n) := by
  cases i
  case windowStart =>
    refine .inl ?_
    simp only [exec, execWindowStart] at h
    split at h
    case isTrue => cases h
    case isFalse hw => exact ⟨rfl, by simpa using hw, by cases h; rfl⟩
  case outByte b =>
    refine .inr (.inl ⟨b, rfl, ?_⟩)
    simp only [exec, execOutByte] at h
    split at h
    case isTrue hw => exact ⟨hw, by cases h; rfl⟩
    case isFalse => cases h
  case inByte b =>
    refine .inr (.inr (.inl ⟨b, rfl, ?_⟩))
    simp only [exec, execInByte] at h
    split at h
    case isTrue hw => exact ⟨hw, by cases h; rfl⟩
    case isFalse => cases h
  case windowEnd =>
    refine .inr (.inr (.inr (.inl ⟨rfl, ?_⟩)))
    simp only [exec, execWindowEnd] at h
    split at h
    case isTrue hw => exact ⟨hw, h⟩
    case isFalse => cases h
  all_goals
    first
    | exact .inr (.inr (.inr (.inr (.inl ⟨_, _, _, _, _, _, rfl, h⟩))))
    | exact .inr (.inr (.inr (.inr (.inr ⟨_, by simp [irqRows], (Host.Outcome.next.inj h).symm⟩))))

/-! ### The interrupt-status value -/

/-- The lowest bit that contributes: it is set and defined, and no lower one is. -/
theorem lowestIrqBit_some {c : Config} {p : BitVec 32} {n : Nat} (h : lowestIrqBit c p = some n) :
    n < 32 ∧ irqBitSet c p n = true ∧ ∀ m, m < n → irqBitSet c p m = false := by
  obtain ⟨hn, hm, hlt⟩ := List.find?_range_eq_some.mp h
  exact ⟨by simpa using hm, hn, fun m hmn => by simpa using hlt m hmn⟩

/-- No bit contributes. -/
theorem lowestIrqBit_none {c : Config} {p : BitVec 32} (h : lowestIrqBit c p = none) (n : Nat) :
    irqBitSet c p n = false := by
  by_cases hn : n < 32
  · simpa using List.find?_eq_none.mp h n (List.mem_range.mpr hn)
  · simp [irqBitSet, BitVec.getLsbD_of_ge p n (by omega)]

/-- What decoding an interrupt-status value can answer: no bit, the row of the lowest one, or its position. -/
theorem decodeIrq_cases (c : Config) (p : BitVec 32) :
    (lowestIrqBit c p = none ∧ decodeIrq c p = .error .noDefinedBit)
      ∨ (∃ n i, lowestIrqBit c p = some n ∧ irqRows.lookup n = some i ∧ decodeIrq c p = .ok i)
      ∨ (∃ n, lowestIrqBit c p = some n ∧ irqRows.lookup n = none ∧ decodeIrq c p = .error (.noRow n)) := by
  unfold decodeIrq
  split
  case h_1 h => exact .inl ⟨h, rfl⟩
  case h_2 n h =>
    split
    case h_1 i hi => exact .inr (.inl ⟨n, i, h, hi, rfl⟩)
    case h_2 hi => exact .inr (.inr ⟨n, h, hi, rfl⟩)

/-! ### The step -/

/-- What a step that goes on can have done: executed a decoded instruction, dealt with a word that is none, or taken
no word at all. -/
theorem step_next (h : step s = .next t) :
    (∃ w u i, fetch s = some (w, u) ∧ decode u.cfg w = .ok i ∧ exec i u = .next t)
      ∨ (∃ w u r, fetch s = some (w, u) ∧ decode u.cfg w = .error r ∧ u.onReject r = .next t)
      ∨ (fetch s = none ∧ t = s.withoutWord) := by
  unfold step at h
  split at h
  case h_1 w u hf =>
    split at h
    case h_1 i hd => exact .inl ⟨w, u, i, hf, hd, h⟩
    case h_2 r hd => exact .inr (.inl ⟨w, u, r, hf, hd, h⟩)
  case h_2 hf => exact .inr (.inr ⟨hf, by cases h; rfl⟩)

/-- What dealing with a word that is no instruction can have done: passed it over, reported a defined bit without a
row, or rejected the window. -/
theorem State.onReject_next {r : DecodeReject} (h : s.onReject r = .next t) :
    (r = .noDefinedBit ∧ t = s) ∨ (∃ n, r = .noRow n ∧ t = s.reportIrq n)
      ∨ ((∀ n, r ≠ .noRow n) ∧ r ≠ .noDefinedBit ∧ s.win = false ∧ t = s.rejectWindow (rejectCause r)) := by
  cases r
  case noDefinedBit => exact .inl ⟨rfl, by cases h; rfl⟩
  case noRow n => exact .inr (.inl ⟨n, rfl, by cases h; rfl⟩)
  all_goals
    simp only [State.onReject] at h
    split at h
    case isTrue => cases h
    case isFalse hw => exact .inr (.inr ⟨nofun, by decide, by simpa using hw, by cases h; rfl⟩)

/-- What fetching can take: an event, a whole window, or a value for the interrupt-status decoder. -/
theorem fetch_some {w : CodeWord} {u : State} (h : fetch s = some (w, u)) :
    (∃ e rest, s.input = .event e :: rest ∧ w = .event10 e ∧ u = { s with input := rest })
      ∨ (∃ out inb rest, s.input = .window out inb :: rest ∧ w = .frame out
          ∧ u = { s.loadWindow out inb with input := rest })
      ∨ (∃ v k rest, s.input = .irqScan v k :: rest ∧ w = .pay32 (irqRemaining v k)
          ∧ u = s.takeIrqScan v k rest) := by
  unfold fetch at h
  split at h
  case h_1 | h_2 => cases h
  case h_3 e rest hi => exact .inl ⟨e, rest, hi, by cases h; rfl, by cases h; rfl⟩
  case h_4 out inb rest hi => exact .inr (.inl ⟨out, inb, rest, hi, by cases h; rfl, by cases h; rfl⟩)
  case h_5 v k rest hi => exact .inr (.inr ⟨v, k, rest, hi, by cases h; rfl, by cases h; rfl⟩)

end Sys2Proof.Machine
end

