-- ==== Sys2Proof/Laws/PerInstr.lean ====
section
/-! SUPPORT. Per-instruction families. EncodeFormat: an instruction's encoding has the format of the opcode table's row it stands for. -/

namespace Sys2Proof

/-- The format of the opcode table's row that an instruction stands for. -/
def Instr.format : Instr → Format
  | .windowStart | .outByte _ | .inByte _ | .windowEnd => .event10
  | .cardRd .. | .cardWr .. | .irqRd .. | .irqClr .. | .cmd53WrStatus .. | .cmd53RdClear .. | .bulkRd .. | .bulkWr ..
  | .cmd53Rd .. | .cmd53Wr .. => .frame56
  | .irqBit0 | .irqBit1 | .irqBit2 | .irqBit3 | .irqBit4 | .irqBit5 | .irqBit6 | .irqBit7 | .irqBit8 | .irqBit9
  | .irqBit10 | .irqBit11 | .irqBit12 | .irqBit13 | .irqBit15 | .irqBit17 | .irqBit18 | .irqBit19 | .irqBit20
  | .irqBit21 | .irqBit22 | .irqBit23 | .irqBit24 | .irqBit25 | .irqBit26 | .irqBit27 => .pay32

end Sys2Proof

namespace Sys2Proof.Laws

/-- The encoding has the format of the row, under every configuration. -/
def EncodeFormat.Statement (i : Instr) : Prop := ∀ c : Config, (encode c i).format = i.format

theorem EncodeFormat.cardRd (dir : Byte) (bm : Bool) (inc : Bool) (addr : BitVec 17) (cnt : BitVec 9) (crc : Byte) : EncodeFormat.Statement (.cardRd dir bm inc addr cnt crc) :=
  fun _ => rfl
theorem EncodeFormat.cardWr (dir : Byte) (bm : Bool) (inc : Bool) (addr : BitVec 17) (cnt : BitVec 9) (crc : Byte) : EncodeFormat.Statement (.cardWr dir bm inc addr cnt crc) :=
  fun _ => rfl
theorem EncodeFormat.irqRd (dir : Byte) (fn : BitVec 3) (bm : Bool) (inc : Bool) (cnt : BitVec 9) (crc : Byte) : EncodeFormat.Statement (.irqRd dir fn bm inc cnt crc) :=
  fun _ => rfl
theorem EncodeFormat.irqClr (dir : Byte) (fn : BitVec 3) (bm : Bool) (inc : Bool) (cnt : BitVec 9) (crc : Byte) : EncodeFormat.Statement (.irqClr dir fn bm inc cnt crc) :=
  fun _ => rfl
theorem EncodeFormat.cmd53WrStatus (dir : Byte) (fn : BitVec 3) (bm : Bool) (inc : Bool) (cnt : BitVec 9) (crc : Byte) : EncodeFormat.Statement (.cmd53WrStatus dir fn bm inc cnt crc) :=
  fun _ => rfl
theorem EncodeFormat.cmd53RdClear (dir : Byte) (fn : BitVec 3) (bm : Bool) (inc : Bool) (cnt : BitVec 9) (crc : Byte) : EncodeFormat.Statement (.cmd53RdClear dir fn bm inc cnt crc) :=
  fun _ => rfl
theorem EncodeFormat.bulkRd (dir : Byte) (bm : Bool) (inc : Bool) (addr : BitVec 17) (cnt : BitVec 9) (crc : Byte) : EncodeFormat.Statement (.bulkRd dir bm inc addr cnt crc) :=
  fun _ => rfl
theorem EncodeFormat.bulkWr (dir : Byte) (bm : Bool) (inc : Bool) (addr : BitVec 17) (cnt : BitVec 9) (crc : Byte) : EncodeFormat.Statement (.bulkWr dir bm inc addr cnt crc) :=
  fun _ => rfl
theorem EncodeFormat.cmd53Rd (dir : Byte) (fn : BitVec 3) (bm : Bool) (inc : Bool) (addr : BitVec 17) (cnt : BitVec 9) (crc : Byte) : EncodeFormat.Statement (.cmd53Rd dir fn bm inc addr cnt crc) :=
  fun _ => rfl
theorem EncodeFormat.cmd53Wr (dir : Byte) (fn : BitVec 3) (bm : Bool) (inc : Bool) (addr : BitVec 17) (cnt : BitVec 9) (crc : Byte) : EncodeFormat.Statement (.cmd53Wr dir fn bm inc addr cnt crc) :=
  fun _ => rfl
theorem EncodeFormat.windowStart : EncodeFormat.Statement .windowStart :=
  fun _ => rfl
theorem EncodeFormat.outByte (b : Byte) : EncodeFormat.Statement (.outByte b) :=
  fun _ => rfl
theorem EncodeFormat.inByte (b : Byte) : EncodeFormat.Statement (.inByte b) :=
  fun _ => rfl
theorem EncodeFormat.windowEnd : EncodeFormat.Statement .windowEnd :=
  fun _ => rfl
theorem EncodeFormat.irqBit0 : EncodeFormat.Statement .irqBit0 :=
  fun _ => rfl
theorem EncodeFormat.irqBit1 : EncodeFormat.Statement .irqBit1 :=
  fun _ => rfl
theorem EncodeFormat.irqBit2 : EncodeFormat.Statement .irqBit2 :=
  fun _ => rfl
theorem EncodeFormat.irqBit3 : EncodeFormat.Statement .irqBit3 :=
  fun _ => rfl
theorem EncodeFormat.irqBit4 : EncodeFormat.Statement .irqBit4 :=
  fun _ => rfl
theorem EncodeFormat.irqBit5 : EncodeFormat.Statement .irqBit5 :=
  fun _ => rfl
theorem EncodeFormat.irqBit6 : EncodeFormat.Statement .irqBit6 :=
  fun _ => rfl
theorem EncodeFormat.irqBit7 : EncodeFormat.Statement .irqBit7 :=
  fun _ => rfl
theorem EncodeFormat.irqBit8 : EncodeFormat.Statement .irqBit8 :=
  fun _ => rfl
theorem EncodeFormat.irqBit9 : EncodeFormat.Statement .irqBit9 :=
  fun _ => rfl
theorem EncodeFormat.irqBit10 : EncodeFormat.Statement .irqBit10 :=
  fun _ => rfl
theorem EncodeFormat.irqBit11 : EncodeFormat.Statement .irqBit11 :=
  fun _ => rfl
theorem EncodeFormat.irqBit12 : EncodeFormat.Statement .irqBit12 :=
  fun _ => rfl
theorem EncodeFormat.irqBit13 : EncodeFormat.Statement .irqBit13 :=
  fun _ => rfl
theorem EncodeFormat.irqBit15 : EncodeFormat.Statement .irqBit15 :=
  fun _ => rfl
theorem EncodeFormat.irqBit17 : EncodeFormat.Statement .irqBit17 :=
  fun _ => rfl
theorem EncodeFormat.irqBit18 : EncodeFormat.Statement .irqBit18 :=
  fun _ => rfl
theorem EncodeFormat.irqBit19 : EncodeFormat.Statement .irqBit19 :=
  fun _ => rfl
theorem EncodeFormat.irqBit20 : EncodeFormat.Statement .irqBit20 :=
  fun _ => rfl
theorem EncodeFormat.irqBit21 : EncodeFormat.Statement .irqBit21 :=
  fun _ => rfl
theorem EncodeFormat.irqBit22 : EncodeFormat.Statement .irqBit22 :=
  fun _ => rfl
theorem EncodeFormat.irqBit23 : EncodeFormat.Statement .irqBit23 :=
  fun _ => rfl
theorem EncodeFormat.irqBit24 : EncodeFormat.Statement .irqBit24 :=
  fun _ => rfl
theorem EncodeFormat.irqBit25 : EncodeFormat.Statement .irqBit25 :=
  fun _ => rfl
theorem EncodeFormat.irqBit26 : EncodeFormat.Statement .irqBit26 :=
  fun _ => rfl
theorem EncodeFormat.irqBit27 : EncodeFormat.Statement .irqBit27 :=
  fun _ => rfl

end Sys2Proof.Laws
end

