-- ==== Sys2Proof/Tests/Slice0.lean ====
section
/-! SUPPORT. Tests with fixed values: ill-formed terms refused, words written out from the spec's tables decoded, one step each against the spec's test vectors (spec/95_test_vectors.md), and for every statement with hypotheses a case that meets them. -/

namespace Sys2Proof.Tests

open Sys2Proof Sys2Proof.Machine

/-! ### WellFormed refuses, check by check -/

/-- The command byte must pass the pattern (R84). -/
theorem test_wellFormed_command_byte :
    WellFormed Config.default (.cardRd 0x74#8 false false 0#17 1#9 0#8) = false
      ∧ WellFormed Config.default (.cardWr 0x35#8 false false 0#17 1#9 0#8) = false
      ∧ WellFormed Config.default (.irqRd 0xF5#8 1#3 false true 4#9 0x89#8) = false
      ∧ WellFormed Config.default (.irqClr 0x74#8 1#3 false true 4#9 0xCD#8) = false
      ∧ WellFormed Config.default (.cmd53WrStatus 0x74#8 1#3 false true 4#9 0xBF#8) = false
      ∧ WellFormed Config.default (.cmd53RdClear 0x74#8 1#3 false true 4#9 0xFB#8) = false
      ∧ WellFormed Config.default (.bulkRd 0x00#8 true true 0x09420#17 3#9 0x0D#8) = false
      ∧ WellFormed Config.default (.bulkWr 0xFF#8 true true 0x09420#17 3#9 0x3B#8) = false
      ∧ WellFormed Config.default (.cmd53Rd 0x74#8 1#3 false true 0x06000#17 4#9 0xCB#8) = false
      ∧ WellFormed Config.default (.cmd53Wr 0x74#8 1#3 false true 0x06054#17 4#9 0x0F#8) = false := by decide

/-- Function 0 belongs to rows 1 and 2 (R103). -/
theorem test_wellFormed_function_zero :
    WellFormed Config.default (.irqRd 0x75#8 0#3 false true 4#9 0xE9#8) = false
      ∧ WellFormed Config.default (.irqClr 0x75#8 0#3 false true 4#9 0xAD#8) = false
      ∧ WellFormed Config.default (.cmd53WrStatus 0x75#8 0#3 false true 4#9 0#8) = false
      ∧ WellFormed Config.default (.cmd53RdClear 0x75#8 0#3 false true 4#9 0#8) = false
      ∧ WellFormed Config.default (.cmd53Rd 0x75#8 0#3 false true 0x06000#17 4#9 0#8) = false
      ∧ WellFormed Config.default (.cmd53Wr 0x75#8 0#3 false true 0x06000#17 4#9 0#8) = false := by decide

/-- Function 2 at a plain address belongs to rows 7 and 8 (R103). -/
theorem test_wellFormed_function_two :
    WellFormed Config.default (.cmd53Rd 0x75#8 2#3 true true 0x09420#17 3#9 0x0D#8) = false
      ∧ WellFormed Config.default (.cmd53Wr 0x75#8 2#3 true true 0x09420#17 3#9 0x3B#8) = false := by decide

/-- The interrupt addresses belong to rows 3 to 6 (R103). -/
theorem test_wellFormed_interrupt_address :
    WellFormed Config.default (.bulkRd 0x75#8 false true 0x06050#17 4#9 0x29#8) = false
      ∧ WellFormed Config.default (.bulkWr 0x75#8 false true 0x06058#17 4#9 0x6D#8) = false
      ∧ WellFormed Config.default (.cmd53Rd 0x75#8 1#3 false true 0x06058#17 4#9 0xFB#8) = false
      ∧ WellFormed Config.default (.cmd53Wr 0x75#8 1#3 false true 0x06050#17 4#9 0xBF#8) = false := by decide

/-- A row of the interrupt bit table is reached only where the mask defines its position (R96). -/
theorem test_wellFormed_interrupt_mask :
    WellFormed { Config.default with irqDefinedMask := 0xF0014000#32 } .irqBit0 = false
      ∧ WellFormed { Config.default with irqDefinedMask := 0x0FFEBFFE#32 } .irqBit0 = false
      ∧ WellFormed { Config.default with irqDefinedMask := 0x07FEBFFF#32 } .irqBit27 = false
      ∧ WellFormed { Config.default with irqDefinedMask := 0x07FEBFFF#32 } .irqBit26 = true := by decide

/-! ### Frames written out bit by bit: marker, command byte, direction, function, block mode, increment, address,
count, CRC byte (R81, R85), and what the spec says they are (T168 to T184) -/

/-- T168: `0xFF7514C0A00489`. -/
theorem test_decode_irqRd :
    decodeTableWord 56 0b11111111011101010001010011000000101000000000010010001001 = some (.irqRd 0x75#8 1#3 false true 4#9 0x89#8) := by decide

/-- T169: `0xFF7594C0B004CD`. -/
theorem test_decode_irqClr :
    decodeTableWord 56 0b11111111011101011001010011000000101100000000010011001101 = some (.irqClr 0x75#8 1#3 false true 4#9 0xCD#8) := by decide

/-- T170: `0xFF7594C0A004BF`. -/
theorem test_decode_cmd53WrStatus :
    decodeTableWord 56 0b11111111011101011001010011000000101000000000010010111111 = some (.cmd53WrStatus 0x75#8 1#3 false true 4#9 0xBF#8) := by decide

/-- T171: `0xFF7514C0B004FB`. -/
theorem test_decode_cmd53RdClear :
    decodeTableWord 56 0b11111111011101010001010011000000101100000000010011111011 = some (.cmd53RdClear 0x75#8 1#3 false true 4#9 0xFB#8) := by decide

/-- T172: `0xFF7504C0A004E9`. -/
theorem test_decode_cardRd :
    decodeTableWord 56 0b11111111011101010000010011000000101000000000010011101001 = some (.cardRd 0x75#8 false true 0x06050#17 4#9 0xE9#8) := by decide

/-- T184: `0xFF758000080129`. -/
theorem test_decode_cardWr :
    decodeTableWord 56 0b11111111011101011000000000000000000010000000000100101001 = some (.cardWr 0x75#8 false false 0x00004#17 1#9 0x29#8) := by decide

/-- T178: `0xFF752D2840030D`. -/
theorem test_decode_bulkRd :
    decodeTableWord 56 0b11111111011101010010110100101000010000000000001100001101 = some (.bulkRd 0x75#8 true true 0x09420#17 3#9 0x0D#8) := by decide

/-- T179: `0xFF75AD2840033B`. -/
theorem test_decode_bulkWr :
    decodeTableWord 56 0b11111111011101011010110100101000010000000000001100111011 = some (.bulkWr 0x75#8 true true 0x09420#17 3#9 0x3B#8) := by decide

/-- T182: `0xFF757BFFFFFFB9`. -/
theorem test_decode_cmd53Rd :
    decodeTableWord 56 0b11111111011101010111101111111111111111111111111110111001 = some (.cmd53Rd 0x75#8 7#3 true false 0x1FFFF#17 511#9 0xB9#8) := by decide

/-- T181: `0xFF7594C0A8040F`. -/
theorem test_decode_cmd53Wr :
    decodeTableWord 56 0b11111111011101011001010011000000101010000000010000001111 = some (.cmd53Wr 0x75#8 1#3 false true 0x06054#17 4#9 0x0F#8) := by decide

/-- T174 to T177: function 2 at an interrupt address is still rows 3 to 6. -/
theorem test_decode_function_two_at_interrupt_address :
    decodeTableWord 56 0xFF7524C0A00429 = some (.irqRd 0x75#8 2#3 false true 4#9 0x29#8)
      ∧ decodeTableWord 56 0xFF75A4C0B0046D = some (.irqClr 0x75#8 2#3 false true 4#9 0x6D#8)
      ∧ decodeTableWord 56 0xFF75A4C0A0041F = some (.cmd53WrStatus 0x75#8 2#3 false true 4#9 0x1F#8)
      ∧ decodeTableWord 56 0xFF7524C0B0045B = some (.cmd53RdClear 0x75#8 2#3 false true 4#9 0x5B#8) := by decide

/-- T185, T186: not recognised. -/
theorem test_decode_unrecognised :
    decodeTableWord 56 0xFE7514C0A00489 = none ∧ decodeTableWord 56 0xFF7414C0A00489 = none
      ∧ decodeFrame Config.default 0xFE7514C0A00489#56 = .error .badMarker
      ∧ decodeFrame Config.default 0xFF7414C0A00489#56 = .error .badCommand := by
  refine ⟨by decide, by decide, by rfl, by rfl⟩

/-! ### Events: two bits of code, eight of data (R99) -/

theorem test_decode_windowStart : decodeTableWord 16 0b0000000000 = some .windowStart := by decide
theorem test_decode_outByte : decodeTableWord 16 0b0100010100 = some (.outByte 0x14#8) := by decide
theorem test_decode_inByte : decodeTableWord 16 0b1011111110 = some (.inByte 0xFE#8) := by decide
theorem test_decode_windowEnd : decodeTableWord 16 0b1100000000 = some .windowEnd := by decide

/-! ### Interrupt bits: the bit at its position (R95) -/

theorem test_decode_irqBit0 : decodeTableWord 32 0x00000001 = some .irqBit0 := by decide
theorem test_decode_irqBit1 : decodeTableWord 32 0x00000002 = some .irqBit1 := by decide
theorem test_decode_irqBit2 : decodeTableWord 32 0x00000004 = some .irqBit2 := by decide
theorem test_decode_irqBit3 : decodeTableWord 32 0x00000008 = some .irqBit3 := by decide
theorem test_decode_irqBit4 : decodeTableWord 32 0x00000010 = some .irqBit4 := by decide
theorem test_decode_irqBit5 : decodeTableWord 32 0x00000020 = some .irqBit5 := by decide
theorem test_decode_irqBit6 : decodeTableWord 32 0x00000040 = some .irqBit6 := by decide
theorem test_decode_irqBit7 : decodeTableWord 32 0x00000080 = some .irqBit7 := by decide
theorem test_decode_irqBit8 : decodeTableWord 32 0x00000100 = some .irqBit8 := by decide
theorem test_decode_irqBit9 : decodeTableWord 32 0x00000200 = some .irqBit9 := by decide
theorem test_decode_irqBit10 : decodeTableWord 32 0x00000400 = some .irqBit10 := by decide
theorem test_decode_irqBit11 : decodeTableWord 32 0x00000800 = some .irqBit11 := by decide
theorem test_decode_irqBit12 : decodeTableWord 32 0x00001000 = some .irqBit12 := by decide
theorem test_decode_irqBit13 : decodeTableWord 32 0x00002000 = some .irqBit13 := by decide
theorem test_decode_irqBit15 : decodeTableWord 32 0x00008000 = some .irqBit15 := by decide
theorem test_decode_irqBit17 : decodeTableWord 32 0x00020000 = some .irqBit17 := by decide
theorem test_decode_irqBit18 : decodeTableWord 32 0x00040000 = some .irqBit18 := by decide
theorem test_decode_irqBit19 : decodeTableWord 32 0x00080000 = some .irqBit19 := by decide
theorem test_decode_irqBit20 : decodeTableWord 32 0x00100000 = some .irqBit20 := by decide
theorem test_decode_irqBit21 : decodeTableWord 32 0x00200000 = some .irqBit21 := by decide
theorem test_decode_irqBit22 : decodeTableWord 32 0x00400000 = some .irqBit22 := by decide
theorem test_decode_irqBit23 : decodeTableWord 32 0x00800000 = some .irqBit23 := by decide
theorem test_decode_irqBit24 : decodeTableWord 32 0x01000000 = some .irqBit24 := by decide
theorem test_decode_irqBit25 : decodeTableWord 32 0x02000000 = some .irqBit25 := by decide
theorem test_decode_irqBit26 : decodeTableWord 32 0x04000000 = some .irqBit26 := by decide
theorem test_decode_irqBit27 : decodeTableWord 32 0x08000000 = some .irqBit27 := by decide

/-- T81, T84, T86, T90, T91: the reserved bits are no instruction. -/
theorem test_decode_reserved_bits :
    [0xF0014000, 0x00004000, 0x00010000, 0x10000000, 0x20000000, 0x40000000, 0x80000000, 0].map (decodeTableWord 32)
      = [none, none, none, none, none, none, none, none] := by decide

/-! ### One step of each interface event (T134 to T167) -/

/-- A state of the parser with the given registers and one event to come, over the reset state. -/
def before (st : FsmState) (win : Bool) (ocnt : BitVec 3) (icnt : BitVec 4) (obuf : Vector Byte 7)
    (ibuf : Vector Byte 4) (e : BitVec 10) : State :=
  { State.reset with st := st, win := win, ocnt := ocnt, icnt := icnt, obuf := obuf, ibuf := ibuf, input := [.event e] }

/-- `st, win, ocnt, icnt, rec_valid, cause`, as the vectors write them. -/
structure Registers where
  st : FsmState
  win : Bool
  ocnt : Nat
  icnt : Nat
  recValid : Bool
  cause : Nat
deriving DecidableEq

/-- The registers of the state a step gives. -/
def registers : Result → Option Registers
  | .next s => some ⟨s.st, s.win, s.ocnt.toNat, s.icnt.toNat, s.recValid, s.cause.code.toNat⟩
  | _ => none

/-- The two buffers of the state a step gives. -/
def buffers : Result → Option (List Byte × List Byte)
  | .next s => some (s.obuf.toList, s.ibuf.toList)
  | _ => none

/-- `rec[37:0]` and the payload of the record the host reads after a step. -/
def readRecord : Result → Option (BitVec 38 × Option IrqPayload)
  | .next s => s.output.map fun r => (recLow r, r.payload)
  | _ => none

/-- What a step has reported of an interrupt-status value. -/
def reported : Result → Option (List Nat)
  | .next s => some s.irqOut
  | _ => none

def irqFrame : Vector Byte 7 := #v[0xFF#8, 0x75#8, 0x14#8, 0xC0#8, 0xA0#8, 0x04#8, 0x89#8]
def clrFrame : Vector Byte 7 := #v[0xFF#8, 0x75#8, 0x94#8, 0xC0#8, 0xB0#8, 0x04#8, 0xCD#8]
def bulkFrame : Vector Byte 7 := #v[0xFF#8, 0x75#8, 0xAD#8, 0x28#8, 0x40#8, 0x03#8, 0x3B#8]
def badMarkerFrame : Vector Byte 7 := #v[0xFE#8, 0x75#8, 0x14#8, 0xC0#8, 0xA0#8, 0x04#8, 0x89#8]
def badCommandFrame : Vector Byte 7 := #v[0xFF#8, 0x74#8, 0x14#8, 0xC0#8, 0xA0#8, 0x04#8, 0x89#8]
def noBytes : Vector Byte 4 := #v[0#8, 0#8, 0#8, 0#8]

/-- T134, T136. -/
theorem test_windowStart :
    registers (step (before .awaitingFrame false 0#3 0#4 irqFrame noBytes 0x000#10)) =
        some ⟨.awaitingFrame, true, 0, 0, false, 0⟩
      ∧ registers (step { before .rejected false 7#3 3#4 irqFrame noBytes 0x000#10 with cause := .malformedMarker }) =
        some ⟨.awaitingFrame, true, 0, 0, false, 0⟩ := by decide

/-- T135: the record of the previous window is no longer readable. -/
theorem test_windowStart_hides_record :
    registers (step { before .complete false 7#3 15#4 irqFrame noBytes 0x000#10 with recValid := true }) =
        some ⟨.awaitingFrame, true, 0, 0, false, 0⟩
      ∧ readRecord (step { before .complete false 7#3 15#4 irqFrame noBytes 0x000#10 with recValid := true }) = none := by
  decide

/-- T140: the third byte is stored and counted. -/
theorem test_outByte_stores :
    let r := step (before .awaitingFrame true 2#3 0#4 #v[0xFF#8, 0x75#8, 0#8, 0#8, 0#8, 0#8, 0#8] noBytes 0x114#10)
    registers r = some ⟨.awaitingFrame, true, 3, 0, false, 0⟩
      ∧ buffers r = some ([0xFF#8, 0x75#8, 0x14#8, 0#8, 0#8, 0#8, 0#8], [0#8, 0#8, 0#8, 0#8]) := by decide

/-- T141, T143, T144, T145: the seventh byte decides; T147: the eighth is ignored. -/
theorem test_outByte_seventh :
    registers (step (before .awaitingFrame true 6#3 0#4 #v[0xFF#8, 0x75#8, 0x14#8, 0xC0#8, 0xA0#8, 0x04#8, 0#8] noBytes
        0x189#10)) = some ⟨.payloadPending, true, 7, 0, false, 0⟩
      ∧ registers (step (before .awaitingFrame true 6#3 0#4 #v[0xFF#8, 0x75#8, 0xAD#8, 0x28#8, 0x40#8, 0x03#8, 0#8]
        noBytes 0x13B#10)) = some ⟨.frameRecognized, true, 7, 0, false, 0⟩
      ∧ registers (step (before .awaitingFrame true 6#3 0#4 #v[0xFE#8, 0x75#8, 0x14#8, 0xC0#8, 0xA0#8, 0x04#8, 0#8]
        noBytes 0x189#10)) = some ⟨.rejected, true, 7, 0, false, 0⟩
      ∧ registers (step (before .awaitingFrame true 6#3 4#4 #v[0xFF#8, 0x74#8, 0x14#8, 0xC0#8, 0xA0#8, 0x04#8, 0#8]
        noBytes 0x189#10)) = some ⟨.rejected, true, 7, 4, false, 0⟩
      ∧ registers (step (before .frameRecognized true 7#3 0#4 bulkFrame noBytes 0x155#10)) =
        some ⟨.frameRecognized, true, 7, 0, false, 0⟩ := by decide

/-- T150 to T153: index 10 is counted only, 11 and 14 are stored, 15 is ignored. -/
theorem test_inByte :
    registers (step (before .payloadPending true 7#3 10#4 irqFrame noBytes 0x2AA#10)) =
        some ⟨.payloadPending, true, 7, 11, false, 0⟩
      ∧ (buffers (step (before .payloadPending true 7#3 10#4 irqFrame noBytes 0x2AA#10))).map Prod.snd =
        some [0#8, 0#8, 0#8, 0#8]
      ∧ (buffers (step (before .payloadPending true 7#3 11#4 irqFrame noBytes 0x2FE#10))).map Prod.snd =
        some [0xFE#8, 0#8, 0#8, 0#8]
      ∧ (buffers (step (before .payloadPending true 7#3 14#4 irqFrame #v[0xFE#8, 0x04#8, 0#8, 0x11#8] 0x200#10))).map
        Prod.snd = some [0xFE#8, 0x04#8, 0#8, 0#8]
      ∧ registers (step (before .payloadPending true 7#3 15#4 irqFrame #v[0xFE#8, 0x04#8, 0#8, 0#8] 0x25A#10)) =
        some ⟨.payloadPending, true, 7, 15, false, 0⟩
      ∧ (buffers (step (before .payloadPending true 7#3 15#4 irqFrame #v[0xFE#8, 0x04#8, 0#8, 0#8] 0x25A#10))).map
        Prod.snd = some [0xFE#8, 0x04#8, 0#8, 0#8] := by decide

/-- T158 to T160: the three kinds of a malformed window. -/
theorem test_windowEnd_rejects :
    registers (step (before .awaitingFrame true 6#3 15#4 irqFrame noBytes 0x300#10)) =
        some ⟨.rejected, false, 6, 15, false, 1⟩
      ∧ registers (step (before .rejected true 7#3 15#4 badMarkerFrame noBytes 0x300#10)) =
        some ⟨.rejected, false, 7, 15, false, 2⟩
      ∧ registers (step (before .rejected true 7#3 0#4 badCommandFrame noBytes 0x300#10)) =
        some ⟨.rejected, false, 7, 0, false, 3⟩ := by decide

/-- T162, T163, T165, T166: the record words. -/
theorem test_windowEnd_emits :
    readRecord (step (before .payloadPending true 7#3 15#4 irqFrame #v[0xFE#8, 0x04#8, 0#8, 0#8] 0x300#10)) =
        some (0x3114C0A004#38, some ⟨0x000004FE#32, 0x000004FE#32⟩)
      ∧ registers (step (before .payloadPending true 7#3 14#4 irqFrame #v[0xFE#8, 0x04#8, 0#8, 0#8] 0x300#10)) =
        some ⟨.complete, false, 7, 14, true, 4⟩
      ∧ readRecord (step (before .payloadPending true 7#3 14#4 irqFrame #v[0xFE#8, 0x04#8, 0#8, 0#8] 0x300#10)) =
        some (0x1114C0A004#38, none)
      ∧ readRecord (step (before .payloadPending true 7#3 15#4 clrFrame #v[0x01#8, 0x00#8, 0x02#8, 0x00#8] 0x300#10)) =
        some (0x3594C0B004#38, some ⟨0x00020001#32, 0x00020001#32⟩)
      ∧ readRecord (step (before .frameRecognized true 7#3 15#4 bulkFrame #v[1#8, 2#8, 3#8, 4#8] 0x300#10)) =
        some (0x1EAD284003#38, none) := by decide

/-- T97's record as one 102-bit word (R100). -/
theorem test_record_word (absent : BitVec 64) :
    recWord absent ⟨⟨false, 1#3, false, true, 0x06050#17, 4#9⟩, none, none, .registerControl, .irqRd,
        some ⟨0x000004FE#32, 0x000004FE#32⟩⟩ = 0x0000013F8000013FB114C0A004#102 := by
  simp only [recWord]; decide

/-! ### One step on a whole window (T97 to T133) -/

/-- The machine after reset with one window delivered whole. -/
def windowed (out inb : List Byte) : State := { State.reset with input := [.window out inb] }

/-- The inbound bytes `A0 A1 ... AA` and four more, as the vectors have them. -/
def inbound (b0 b1 b2 b3 : Byte) : List Byte :=
  [0xA0#8, 0xA1#8, 0xA2#8, 0xA3#8, 0xA4#8, 0xA5#8, 0xA6#8, 0xA7#8, 0xA8#8, 0xA9#8, 0xAA#8, b0, b1, b2, b3]

/-- T98. -/
theorem test_irqRd :
    let r := step (windowed [0xFF#8, 0x75#8, 0x14#8, 0xC0#8, 0xA0#8, 0x04#8, 0x89#8] (inbound 0xFE#8 0x04#8 0#8 0#8 ++ [1#8, 2#8, 3#8]))
    registers r = some ⟨.complete, false, 7, 15, true, 0⟩ ∧ readRecord r = some (0x3114C0A004#38, some ⟨0x000004FE#32, 0x000004FE#32⟩) := by
  decide

/-- T115. -/
theorem test_irqClr :
    let r := step (windowed [0xFF#8, 0x75#8, 0x94#8, 0xC0#8, 0xB0#8, 0x04#8, 0xCD#8, 0xFE#8, 0x04#8, 0x00#8, 0x00#8] (inbound 0x01#8 0x00#8 0x02#8 0x00#8))
    registers r = some ⟨.complete, false, 7, 15, true, 0⟩ ∧ readRecord r = some (0x3594C0B004#38, some ⟨0x00020001#32, 0x00020001#32⟩) := by
  decide

/-- T116. -/
theorem test_cmd53WrStatus :
    let r := step (windowed [0xFF#8, 0x75#8, 0x94#8, 0xC0#8, 0xA0#8, 0x04#8, 0xBF#8] (inbound 0xFE#8 0x04#8 0#8 0#8))
    registers r = some ⟨.complete, false, 7, 15, true, 0⟩ ∧ readRecord r = some (0x0D94C0A004#38, none) := by
  decide

/-- T117. -/
theorem test_cmd53RdClear :
    let r := step (windowed [0xFF#8, 0x75#8, 0x14#8, 0xC0#8, 0xB0#8, 0x04#8, 0xFB#8] (inbound 0xFE#8 0x04#8 0#8 0#8))
    registers r = some ⟨.complete, false, 7, 15, true, 0⟩ ∧ readRecord r = some (0x0914C0B004#38, none) := by
  decide

/-- T118. -/
theorem test_cardRd :
    let r := step (windowed [0xFF#8, 0x75#8, 0x04#8, 0xC0#8, 0xA0#8, 0x04#8, 0xE9#8] (inbound 0xFE#8 0x04#8 0#8 0#8))
    registers r = some ⟨.complete, false, 7, 15, true, 0⟩ ∧ readRecord r = some (0x0004C0A004#38, none) := by
  decide

/-- T124. -/
theorem test_cardWr :
    let r := step (windowed [0xFF#8, 0x75#8, 0x80#8, 0x00#8, 0x08#8, 0x01#8, 0x29#8] [])
    registers r = some ⟨.complete, false, 7, 0, true, 0⟩ ∧ readRecord r = some (0x0480000801#38, none) := by
  decide

/-- T131. -/
theorem test_bulkRd :
    let r := step (windowed [0xFF#8, 0x75#8, 0x2D#8, 0x28#8, 0x41#8, 0xFF#8, 0xDF#8] [])
    registers r = some ⟨.complete, false, 7, 0, true, 0⟩ ∧ readRecord r = some (0x1A2D2841FF#38, none) := by
  decide

/-- T130. -/
theorem test_bulkWr :
    let r := step (windowed [0xFF#8, 0x75#8, 0xAD#8, 0x28#8, 0x40#8, 0x00#8, 0x0D#8] [])
    registers r = some ⟨.complete, false, 7, 0, true, 0⟩ ∧ readRecord r = some (0x1EAD284000#38, none) := by
  decide

/-- T132. -/
theorem test_cmd53Rd :
    let r := step (windowed [0xFF#8, 0x75#8, 0x7B#8, 0xFF#8, 0xFF#8, 0xFF#8, 0xB9#8] (inbound 0xFE#8 0x04#8 0#8 0#8))
    registers r = some ⟨.complete, false, 7, 15, true, 0⟩ ∧ readRecord r = some (0x097BFFFFFF#38, none) := by
  decide

/-- T133. -/
theorem test_cmd53Wr :
    let r := step (windowed [0xFF#8, 0x75#8, 0xC0#8, 0xA0#8, 0x04#8, 0x89#8, 0x00#8] (inbound 0xFE#8 0x04#8 0#8 0#8))
    registers r = some ⟨.complete, false, 7, 15, true, 0⟩ ∧ readRecord r = some (0x0DC0A00489#38, none) := by
  decide

/-- T99, T114: too few inbound bytes. -/
theorem test_truncated :
    registers (step (windowed [0xFF#8, 0x75#8, 0x14#8, 0xC0#8, 0xA0#8, 0x04#8, 0x89#8] ((inbound 0xFE#8 0x04#8 0#8 0#8).take 14)))
        = some ⟨.complete, false, 7, 14, true, 4⟩
      ∧ readRecord (step (windowed [0xFF#8, 0x75#8, 0x94#8, 0xC0#8, 0xB0#8, 0x04#8, 0xCD#8] ((inbound 0xFE#8 0#8 0#8 0#8).take 12)))
        = some (0x1594C0B004#38, none) := by decide

/-- T107, T110, T111: a window that is rejected. -/
theorem test_rejected_windows :
    registers (step (windowed [0xFF#8, 0x75#8, 0x14#8, 0xC0#8, 0xA0#8, 0x04#8] (inbound 0xFE#8 0x04#8 0#8 0#8))) =
        some ⟨.rejected, false, 6, 15, false, 1⟩
      ∧ registers (step (windowed [0xFE#8, 0x75#8, 0x14#8, 0xC0#8, 0xA0#8, 0x04#8, 0x89#8] [])) =
        some ⟨.rejected, false, 7, 0, false, 2⟩
      ∧ registers (step (windowed [0xFF#8, 0x74#8, 0x14#8, 0xC0#8, 0xA0#8, 0x04#8, 0x89#8] [])) =
        some ⟨.rejected, false, 7, 0, false, 3⟩ := by decide

/-- P5, step 14: a reset in a window (the buffers are free values, so they are not looked at). -/
theorem test_reset_input :
    registers (step { before .payloadPending true 7#3 5#4 irqFrame noBytes 0#10 with input := [.reset] }) =
      some ⟨.awaitingFrame, false, 0, 0, false, 0⟩ := by rfl

/-! ### One step of the interrupt-status decoder -/

/-- The machine after reset with an interrupt-status value given to the decoder. -/
def scanning (v : BitVec 32) (k : Nat) : State := { State.reset with input := [.irqScan v k], irqOut := [1, 2] }

/-- The defaults with another `IRQ_DEFINED_MASK`. -/
def otherMask : Config := { Config.default with irqDefinedMask := 0x00004004#32 }

/-- Each defined bit alone: one step reports its position. -/
theorem test_irqBits :
    (irqRows.map fun r => reported (step (scanning (1#32 <<< r.1) 0))) = irqRows.map fun r => some [r.1] := by decide

/-- T96, its first step and the one after position 13; T81, the reserved bits alone. -/
theorem test_irq_scan :
    reported (step (scanning 0xDEADBEEF#32 0)) = some [0] ∧ reported (step (scanning 0xDEADBEEF#32 14)) = some [1, 2, 15]
      ∧ reported (step (scanning 0xF0014000#32 0)) = some [] := by decide

/-- T80, T92, T96: the pure function. -/
theorem test_irq_positions :
    irqPositions Config.default 0xFFFFFFFF#32 = irqDefinedPositions Config.default
      ∧ irqPositions Config.default 0x0001C000#32 = [15]
      ∧ irqPositions Config.default 0xDEADBEEF#32 = [0, 1, 2, 3, 5, 6, 7, 9, 10, 11, 12, 13, 15, 18, 19, 21, 23, 25, 26, 27]
      ∧ activeMask Config.default 0xDEADBEEF#32 = 0x0EACBEEF#32 := by decide

/-- A configuration with another mask (bits 14 and 2): bit 14, which has no row, is reported all the same, and bit 0
is not. -/
theorem test_irq_other_mask :
    reported (step { scanning 0x00004001#32 0 with cfg := otherMask }) = some [14]
      ∧ activeMask otherMask 0x00004005#32 = 0x00004004#32 := by decide

/-- The interface puts an instruction where the next step takes it from. -/
theorem test_withFetchWord :
    registers (step (State.reset.withFetchWord 16 0x000)) = some ⟨.awaitingFrame, true, 0, 0, false, 0⟩
      ∧ registers (step (State.reset.withFetchWord 56 0xFF7514C0A00489)) = some ⟨.complete, false, 7, 0, true, 4⟩
      ∧ reported (step (State.reset.withFetchWord 32 0x00020000)) = some [17] := by decide

/-! ### Every statement with hypotheses has a case that meets them -/

/-- A window just opened. -/
def openState : State := before .awaitingFrame true 0#3 0#4 irqFrame noBytes 0x1FF#10

/-- A window completed: the interrupt-status read of T97. -/
def completeState : State :=
  { before .complete false 7#3 15#4 irqFrame #v[0xFE#8, 0x04#8, 0#8, 0#8] 0#10 with
    recValid := true
    record := ⟨⟨false, 1#3, false, true, 0x06050#17, 4#9⟩, none, none, .registerControl, .irqRd,
      some ⟨0x000004FE#32, 0x000004FE#32⟩⟩
    outSeq := irqFrame.toList
    inSeq := inbound 0xFE#8 0x04#8 0#8 0#8 }

/-- Inside a window with `n` outbound bytes of the given frame delivered. -/
def inWindow (st : FsmState) (frame : Vector Byte 7) (n : Nat) : State :=
  { before st true (BitVec.ofNat 3 n) 0#4 frame noBytes 0#10 with outSeq := frame.toList.take n }

theorem witness_DecodeOfEncode :
    Config.default.irqStatusAddr ≠ Config.default.irqClearAddr
      ∧ WellFormed Config.default (.irqRd 0x75#8 1#3 false true 4#9 0x89#8) = true
      ∧ WellFormed Config.default (.irqClr 0x75#8 1#3 false true 4#9 0xCD#8) = true
      ∧ WellFormed Config.default (.cmd53WrStatus 0x75#8 1#3 false true 4#9 0xBF#8) = true
      ∧ WellFormed Config.default (.cmd53RdClear 0x75#8 1#3 false true 4#9 0xFB#8) = true
      ∧ WellFormed Config.default (.cardRd 0x75#8 false true 0x06050#17 4#9 0xE9#8) = true
      ∧ WellFormed Config.default (.cardWr 0x75#8 false false 0x00004#17 1#9 0x29#8) = true
      ∧ WellFormed Config.default (.bulkRd 0x75#8 true true 0x09420#17 3#9 0x0D#8) = true
      ∧ WellFormed Config.default (.bulkWr 0x75#8 true true 0x09420#17 3#9 0x3B#8) = true
      ∧ WellFormed Config.default (.cmd53Rd 0x75#8 7#3 true false 0x1FFFF#17 511#9 0xB9#8) = true
      ∧ WellFormed Config.default (.cmd53Wr 0x75#8 1#3 false true 0x06054#17 4#9 0x0F#8) = true
      ∧ WellFormed Config.default (.outByte 0xFF#8) = true
      ∧ WellFormed Config.default .irqBit27 = true := by decide

theorem witness_EncodeOfDecodedFrame :
    decode Config.default (.frame [0xFF#8, 0x75#8, 0x14#8, 0xC0#8, 0xA0#8, 0x04#8, 0x89#8, 0x11#8]) =
      .ok (.irqRd 0x75#8 1#3 false true 4#9 0x89#8) := by rfl

theorem witness_FrameRefusalsAreNamed :
    ([] : List Byte).length < 7 ∧ ((irqFrame.toList).take 6).length < 7 ∧ 7 ≤ irqFrame.toList.length
      ∧ badMarkerFrame.toList = 0xFE#8 :: 0x75#8 :: [0x14#8, 0xC0#8, 0xA0#8, 0x04#8, 0x89#8]
      ∧ 0xFE#8 ≠ Config.default.startMarker ∧ 0xFF#8 = Config.default.startMarker
      ∧ 0x74#8 &&& Config.default.cmdMask ≠ Config.default.cmdMatch
      ∧ 0x75#8 &&& Config.default.cmdMask = Config.default.cmdMatch := by decide

/-- The frame of T168 passes over rows 1 and 2 and matches row 3; it starts with `FF 75`, T185 does not. -/
theorem witness_DecodeMapIsTheTable :
    (∃ before after r, frameRows Config.default = before ++ r :: after
        ∧ 0xFF7514C0A00489#56 &&& r.mask = r.pattern
        ∧ (∀ q ∈ before, 0xFF7514C0A00489#56 &&& q.mask ≠ q.pattern) ∧ before.length = 2)
      ∧ (0xFF7514C0A00489#56).extractLsb' 40 16 = 0xFF75#16 ∧ (0xFE7514C0A00489#56).extractLsb' 40 16 ≠ 0xFF75#16 := by
  refine ⟨⟨(frameRows Config.default).take 2, (frameRows Config.default).drop 3, _, rfl, by decide, ?_, rfl⟩, by decide,
    by decide⟩
  intro q hq
  simp only [frameRows, List.take, List.mem_cons, List.not_mem_nil, or_false] at hq
  rcases hq with rfl | rfl <;> decide

theorem witness_DecodedKindIsTxnKind :
    decodeFrame Config.default 0xFF7594C0A004BF#56 = .ok (.cmd53WrStatus 0x75#8 1#3 false true 4#9 0xBF#8) := by rfl

theorem witness_IrqRowsAscending :
    (27 ∈ irqDefinedPositions Config.default ∧ (0x18000000#32).getLsbD 27 = true
        ∧ (∀ m ∈ irqDefinedPositions Config.default, m < 27 → (0x18000000#32).getLsbD m = false) ∧ (27, .irqBit27) ∈ irqRows)
      ∧ (14 ∈ irqDefinedPositions otherMask ∧ (0x00004001#32).getLsbD 14 = true
        ∧ (∀ m ∈ irqDefinedPositions otherMask, m < 14 → (0x00004001#32).getLsbD m = false) ∧ ∀ r ∈ irqRows, r.1 ≠ 14)
      ∧ ∀ n ∈ irqDefinedPositions Config.default, (0xF0014000#32).getLsbD n = false := by decide

theorem witness_DisplaySizeInBytes :
    Config.default.blockSize = 512 := by decide

theorem witness_CommandWordOfFrame :
    frameWord irqFrame.toList = some 0xFF7514C0A00489#56 := by decide

theorem witness_ClassifyTable :
    (1#3 : BitVec 3) ≠ 0#3 ∧ (1#3 : BitVec 3) ≠ 2#3 ∧ (7#3 : BitVec 3) ≠ 0#3 ∧ (7#3 : BitVec 3) ≠ 2#3 := by decide

theorem witness_IrqKindImpliesRegisterControl :
    irqKind Config.default 7#3 0x06058#17 true ≠ .none := by decide

theorem witness_IrqDecoderLaws :
    0x00000001#32 &&& 0x00004003#32 = 0x00000001#32 ∧ Config.default.wf = true
      ∧ ∀ m ∈ irqDefinedPositions Config.default, ∀ n ∈ irqDefinedPositions Config.default,
          irqNameAt Config.default m = irqNameAt Config.default n → m = n := by decide

theorem witness_ScanReportsEveryPosition :
    (scanning 0x000004FE#32 0).input = .irqScan 0x000004FE#32 0 :: [] := by decide

theorem witness_WindowStartResult :
    State.reset.win = false ∧ openState.win = true := by decide

theorem witness_OutByteResult :
    (openState.win = true ∧ openState.ocnt.toNat = (0 : Fin 6).val)
      ∧ ((inWindow .awaitingFrame irqFrame 5).win = true ∧ (inWindow .awaitingFrame irqFrame 5).ocnt.toNat = (5 : Fin 6).val)
      ∧ ((inWindow .awaitingFrame irqFrame 6).win = true ∧ (inWindow .awaitingFrame irqFrame 6).ocnt.toNat = 6)
      ∧ ((inWindow .payloadPending irqFrame 7).win = true ∧ (inWindow .payloadPending irqFrame 7).ocnt.toNat = 7) := by decide

/-- The boundary counts of the three clauses: 0 and 10, 11 and 14, 15. -/
theorem witness_InByteResult :
    openState.win = true ∧ openState.icnt.toNat < openState.cfg.payloadOffset.val
      ∧ ({ openState with icnt := 10#4 } : State).icnt.toNat < openState.cfg.payloadOffset.val
      ∧ ({ openState with icnt := 11#4 } : State).icnt.toNat = openState.cfg.payloadOffset.val + (0 : Fin 4).val
      ∧ ({ openState with icnt := 14#4 } : State).icnt.toNat = openState.cfg.payloadOffset.val + (3 : Fin 4).val
      ∧ openState.cfg.payloadOffset.val + 4 ≤ ({ openState with icnt := 15#4 } : State).icnt.toNat := by decide

theorem witness_WindowEndRejects :
    (openState.win = true ∧ openState.st = .awaitingFrame)
      ∧ ((inWindow .rejected badMarkerFrame 7).win = true ∧ (inWindow .rejected badMarkerFrame 7).st = .rejected
        ∧ (inWindow .rejected badMarkerFrame 7).obuf[0] ≠ (inWindow .rejected badMarkerFrame 7).cfg.startMarker)
      ∧ ((inWindow .rejected badCommandFrame 7).win = true ∧ (inWindow .rejected badCommandFrame 7).st = .rejected
        ∧ (inWindow .rejected badCommandFrame 7).obuf[0] = (inWindow .rejected badCommandFrame 7).cfg.startMarker)
      ∧ ((inWindow .complete irqFrame 7).win = true ∧ (inWindow .complete irqFrame 7).st = .complete) := by decide

theorem witness_WindowEndEmits :
    (argumentBits ⟨true, 2#3, true, true, 0x09420#17, 3#9⟩ = bulkFrame[2] ++ bulkFrame[3] ++ bulkFrame[4] ++ bulkFrame[5]
        ∧ (inWindow .frameRecognized bulkFrame 7).win = true ∧ (inWindow .frameRecognized bulkFrame 7).st = .frameRecognized
        ∧ (inWindow .frameRecognized bulkFrame 7).obuf = bulkFrame)
      ∧ (argumentBits ⟨false, 1#3, false, true, 0x06050#17, 4#9⟩ = irqFrame[2] ++ irqFrame[3] ++ irqFrame[4] ++ irqFrame[5]
        ∧ (inWindow .payloadPending irqFrame 7).win = true ∧ (inWindow .payloadPending irqFrame 7).st = .payloadPending
        ∧ (inWindow .payloadPending irqFrame 7).obuf = irqFrame
        ∧ (inWindow .payloadPending irqFrame 7).icnt.toNat ≠ (inWindow .payloadPending irqFrame 7).cfg.payloadOffset.val + 4
        ∧ (before .payloadPending true 7#3 15#4 irqFrame noBytes 0#10).win = true
        ∧ (before .payloadPending true 7#3 15#4 irqFrame noBytes 0#10).st = .payloadPending
        ∧ (before .payloadPending true 7#3 15#4 irqFrame noBytes 0#10).obuf = irqFrame
        ∧ (before .payloadPending true 7#3 15#4 irqFrame noBytes 0#10).icnt.toNat =
            (before .payloadPending true 7#3 15#4 irqFrame noBytes 0#10).cfg.payloadOffset.val + 4) := by decide

theorem witness_ContractBreachesAreRefused :
    openState.win = true ∧ State.reset.win = false
      ∧ ({ openState with input := [.window [] []] } : State).input = .window [] [] :: []
      ∧ (instrKind (.bulkRd 0x75#8 true true 0x09420#17 3#9 0x0D#8)).isSome = true := ⟨rfl, rfl, rfl, rfl⟩

theorem witness_CardFramesEmit :
    State.reset.win = false := by decide

theorem witness_Cmd53FramesEmit :
    State.reset.win = false ∧ completeState.win = false := by decide

theorem witness_IrqFramesEmit :
    (completeState.win = false ∧ completeState.inSeq[completeState.cfg.payloadOffset.val]? = some 0xFE#8
        ∧ completeState.inSeq[completeState.cfg.payloadOffset.val + 1]? = some 0x04#8
        ∧ completeState.inSeq[completeState.cfg.payloadOffset.val + 2]? = some 0#8
        ∧ completeState.inSeq[completeState.cfg.payloadOffset.val + 3]? = some 0#8)
      ∧ (State.reset.win = false ∧ State.reset.inSeq.length < State.reset.cfg.payloadOffset.val + 4) := by decide

theorem witness_BulkFramesEmit :
    State.reset.win = false ∧ completeState.win = false := by decide

theorem witness_StepRunsTheDecodedInstruction :
    (openState.input = .event 0x1FF#10 :: [] ∧ decode openState.cfg (.event10 0x1FF#10) = .ok (.outByte 0xFF#8))
      ∧ ((windowed irqFrame.toList []).input = .window irqFrame.toList [] :: []
        ∧ decode (windowed irqFrame.toList []).cfg (.frame irqFrame.toList) = .ok (.irqRd 0x75#8 1#3 false true 4#9 0x89#8))
      ∧ ((scanning 0x08000001#32 1).input = .irqScan 0x08000001#32 1 :: []
        ∧ decode (scanning 0x08000001#32 1).cfg (.pay32 ((0x08000001#32 >>> 1) <<< 1)) = .ok .irqBit27)
      ∧ State.reset.input = [] := ⟨⟨rfl, rfl⟩, ⟨rfl, rfl⟩, ⟨rfl, rfl⟩, rfl⟩

theorem witness_ParseWindowCases :
    ([] : List Byte).length < 7 ∧ (irqFrame.toList.take 6).length < 7
      ∧ badMarkerFrame.toList = 0xFE#8 :: 0x75#8 :: 0x14#8 :: 0xC0#8 :: 0xA0#8 :: 0x04#8 :: 0x89#8 :: []
      ∧ 0xFE#8 ≠ Config.default.startMarker ∧ 0xFF#8 = Config.default.startMarker
      ∧ 0x74#8 &&& Config.default.cmdMask ≠ Config.default.cmdMatch
      ∧ 0x75#8 &&& Config.default.cmdMask = Config.default.cmdMatch := by decide

/-- A bulk write, an interrupt read cut short after 14 inbound bytes, and one with all 15. -/
theorem witness_PayloadIsWholeOrAbsent :
    (∃ r, parseWindow Config.default bulkFrame.toList [] = (some r, .none) ∧ r.kind.irq = .none)
      ∧ (∃ r, parseWindow Config.default irqFrame.toList ((inbound 0xFE#8 0x04#8 0#8 0#8).take 14)
            = (some r, .truncatedPayload)
          ∧ r.kind.irq ≠ .none
          ∧ ((inbound 0xFE#8 0x04#8 0#8 0#8).take 14).length < Config.default.payloadOffset.val + 4)
      ∧ ∃ r, parseWindow Config.default irqFrame.toList (inbound 0xFE#8 0x04#8 0#8 0#8) = (some r, .none)
          ∧ r.kind.irq ≠ .none ∧ Config.default.payloadOffset.val + 4 ≤ (inbound 0xFE#8 0x04#8 0#8 0#8).length
          ∧ ((inbound 0xFE#8 0x04#8 0#8 0#8).drop Config.default.payloadOffset.val).take 4
            = [0xFE#8, 0x04#8, 0#8, 0#8] :=
  ⟨⟨_, rfl, by decide⟩, ⟨_, rfl, by decide, by decide⟩, _, rfl, by decide, by decide, by decide⟩

theorem witness_WholeWindowStepIsParseWindow :
    (windowed irqFrame.toList []).win = false
      ∧ (windowed irqFrame.toList []).input = .window irqFrame.toList [] :: [] := ⟨rfl, rfl⟩

theorem witness_EventsAgreeWithParseWindow :
    State.reset.win = false ∧ completeState.win = false := by decide

theorem witness_WholeWindowStepEqualsItsEvents :
    State.reset.win = false ∧ completeState.win = false := by decide

/-- Two different histories and two different interleavings of one window. -/
theorem witness_WindowsAreIndependent :
    State.reset.win = false ∧ completeState.win = false ∧ State.reset.cfg = completeState.cfg
      ∧ outBytes [.out 0xFF#8, .inb 0xA0#8] = outBytes [.inb 0xA0#8, .out 0xFF#8]
      ∧ inBytes [.out 0xFF#8, .inb 0xA0#8] = inBytes [.inb 0xA0#8, .out 0xFF#8] := ⟨rfl, rfl, rfl, rfl, rfl⟩

theorem witness_UntestedBytesNeverMatter :
    7 ≤ irqFrame.toList.length ∧ 7 ≤ (irqFrame.toList.take 6 ++ [0#8, 1#8]).length
      ∧ irqFrame.toList.take 6 = (irqFrame.toList.take 6 ++ [0#8, 1#8]).take 6
      ∧ ((inbound 1#8 2#8 3#8 4#8).drop Config.default.payloadOffset.val).take 4 =
          ((inbound 1#8 2#8 3#8 4#8 ++ [5#8]).drop Config.default.payloadOffset.val).take 4 := by decide

/-- A state inside a window with `n` bytes of a frame delivered meets the invariant, for the witnesses below. -/
theorem inv_inWindow (st : FsmState) (frame : Vector Byte 7) (n : Nat) (hn : n ≤ 7)
    (hd : (n = 7 → st = frameState Config.default frame) ∧ (n ≠ 7 → st = .awaitingFrame)) :
    Inv (inWindow st frame n) := by
  have hc : (inWindow st frame n).ocnt.toNat = n := by simp [inWindow, before]; omega
  have hlen : (inWindow st frame n).outSeq.length = n := by simp [inWindow, before]; omega
  have hst : (inWindow st frame n).st = st := rfl
  have hne : n = 7 → st ≠ .awaitingFrame ∧ st ≠ .complete := by
    intro h
    rw [hd.1 h]
    unfold frameState
    split
    · decide
    · decide
    · dsimp only
      split <;> decide
  constructor
  · rw [hc, hlen]; simp [frameLen]; omega
  · rfl
  · intro i hi
    rw [hc] at hi
    have h7 : i < 7 := by omega
    simp [inWindow, before, hi]
  · intro j _ hj
    exact absurd hj (by simp [inWindow, before])
  · intro h
    rw [hst] at h
    right
    refine ⟨rfl, ?_⟩
    rw [hc]
    have : n ≠ 7 := fun e => (hne e).1 h
    simp [frameLen]; omega
  · intro h
    rw [hst] at h
    refine ⟨rfl, ?_⟩
    rw [hc]
    by_contra hx
    have := hd.2 hx
    rcases h with h | h <;> rw [h] at this <;> cases this
  · intro h
    rw [hst] at h
    by_cases e : n = 7
    · exact absurd h (hne e).2
    · rw [hd.2 e] at h; cases h
  · intro h; cases h
  · intro h _
    rw [hst] at h
    rw [hc]
    by_contra hx
    have := hd.2 hx
    rw [h] at this; cases this
  · intro _ h
    rw [hc] at h
    exact hd.1 h

theorem inv_completeState : Inv completeState where
  outCount := by decide
  inCount := by decide
  outBytes := by decide
  inBytes := by decide
  awaiting := by decide
  recognized := by decide
  complete := by decide
  valid := by decide
  rejected := by decide
  decided := by decide

/-- No window open, and a window open with 5, 6 and 7 outbound bytes. -/
theorem witness_TransitionTable :
    (Inv completeState ∧ completeState.win = false)
      ∧ (Inv (inWindow .awaitingFrame irqFrame 5) ∧ (inWindow .awaitingFrame irqFrame 5).win = true
        ∧ (inWindow .awaitingFrame irqFrame 5).ocnt.toNat ≤ 5)
      ∧ (Inv (inWindow .awaitingFrame irqFrame 6) ∧ (inWindow .awaitingFrame irqFrame 6).ocnt.toNat = 6)
      ∧ (Inv (inWindow .payloadPending irqFrame 7) ∧ (inWindow .payloadPending irqFrame 7).ocnt.toNat = 7) :=
  ⟨⟨inv_completeState, rfl⟩,
    ⟨inv_inWindow _ _ 5 (by omega) ⟨by omega, fun _ => rfl⟩, rfl, by decide⟩,
    ⟨inv_inWindow _ _ 6 (by omega) ⟨by omega, fun _ => rfl⟩, by decide⟩,
    inv_inWindow _ _ 7 (by omega) ⟨fun _ => by decide, by omega⟩, by decide⟩

/-- Rejected in a window, with an event that leaves it only between windows. -/
theorem witness_RejectedIsAbsorbing :
    (Inv (inWindow .rejected badMarkerFrame 7) ∧ (inWindow .rejected badMarkerFrame 7).st = .rejected
        ∧ (inWindow .rejected badMarkerFrame 7).win = true)
      ∧ ∃ s t : State, Inv s ∧ s.st = .rejected ∧ exec (decodeEvent 0#10) s = .next t ∧ t.st ≠ .rejected :=
  ⟨⟨inv_inWindow _ _ 7 (by omega) ⟨fun _ => by decide, by omega⟩, rfl, rfl⟩,
    { State.reset with st := .rejected, cause := .malformedShort }, _,
    { outCount := by decide, inCount := by decide, outBytes := by decide, inBytes := by decide, awaiting := by decide
      recognized := by decide, complete := by decide, valid := by decide, rejected := by decide, decided := by decide },
    rfl, rfl, by decide⟩

theorem witness_StepKeepsInvariant : ∃ t, Inv (inWindow .payloadPending irqFrame 7)
    ∧ step { inWindow .payloadPending irqFrame 7 with input := [.event 0x2A0#10] } = .next t :=
  ⟨_, inv_inWindow _ _ 7 (by omega) ⟨fun _ => by decide, by omega⟩, rfl⟩

/-- A completed window whose output is what its bytes give, and a step from there. -/
theorem witness_OutputIsParseWindowOfLastWindow : ∃ t, Inv completeState ∧ OutputCorrect completeState
    ∧ step completeState = .next t :=
  ⟨_, inv_completeState, fun _ _ => rfl, rfl⟩

theorem witness_ContractRunsNeverStop :
    Inv completeState ∧ contract completeState.win completeState.input = true
      ∧ contract false (windowEvents [.out 0xFF#8, .inb 0#8] ++ [.irqScan 1#32 0, .window [] [], .event 0#10, .reset]) = true :=
  ⟨inv_completeState, by decide, by decide⟩

theorem witness_ConfigurationIsNeverWritten : ∃ t, step openState = .next t := ⟨_, rfl⟩

/-- The end of a recognised window. -/
theorem witness_RecordAppearsOnlyAtWindowEnd :
    ∃ t, step (before .frameRecognized true 7#3 0#4 bulkFrame noBytes 0x300#10) = .next t
      ∧ (before .frameRecognized true 7#3 0#4 bulkFrame noBytes 0x300#10).recValid = false ∧ t.recValid = true :=
  ⟨_, rfl, rfl, rfl⟩

/-- A step that keeps the record (a scan), and one that hides it (the next window's start). -/
theorem witness_RecordIsHeldUntilNextWindow :
    Inv completeState ∧ completeState.recValid = true ∧ (∃ t, step completeState = .next t)
      ∧ ∃ t, step { completeState with input := [.irqScan 2#32 0] } = .next t ∧ t.recValid = true :=
  ⟨inv_completeState, rfl, ⟨_, rfl⟩, _, rfl, rfl⟩

theorem witness_ResetValues : ∃ t, exec (decodeEvent 0x0FF#10) State.reset = .next t := ⟨_, rfl⟩

theorem witness_ResetInputAbandonsTheWindow :
    ({ openState with input := [.reset] } : State).input = .reset :: [] := rfl

theorem witness_RecordWordLayout :
    completeState.record.payload = some ⟨0x000004FE#32, 0x000004FE#32⟩ ∧ State.unsetRecord.payload = none := by decide

/-- A record of the given kind, for the display. -/
def shown (k : Kind) (t : Argument) (p : Option IrqPayload) : Transaction := ⟨t, none, none, k.category, k, p⟩

/-- A style of display strings: small letters, four digits, `0x` in front of every number. -/
def plainStyle : RenderStyle :=
  ⟨fun _ => "L", false, 4, true, false, 0, fun n => Nat.repr n.toNat, true, false, ",", "none", "?", "?"⟩

/-- A short address, the pinned one, and one with letters (R223, R227). -/
theorem test_addressText :
    addressText plainStyle 0x00004#17 = "0x0004" ∧ hexText plainStyle 0x00004#17 = "0x4"
      ∧ addressText plainStyle 0x06050#17 = "0x6050" ∧ addressText plainStyle 0x1ABCD#17 = "0x1abcd"
      ∧ hexText plainStyle 0#17 = "0x0" := by decide

/-- T191, T193 and T194 in that style. -/
theorem test_render :
    render Config.default plainStyle (shown .bulkRd ⟨false, 2#3, false, false, 0x09420#17, 3#9⟩ none)
        = "BULK RD: L | 0x9420 [3 bytes] Byte,Fixed"
      ∧ render Config.default plainStyle (shown .cmd53Wr ⟨true, 7#3, true, false, 0x00006#17, 511#9⟩ none)
        = "CMD53 WR: L | Addr:0x6 Cnt:511 Block,Fixed"
      ∧ render Config.default plainStyle (shown .cardRd ⟨false, 0#3, false, false, 0x00006#17, 1#9⟩ none)
        = "CARD: L | Addr:0x6 Read Cnt:1" := by decide

/-- One record for each clause (T187 to T191), both kinds of a template, and the payloads of the name clauses. -/
theorem witness_DisplayTemplates :
    Config.default.blockSize = 512
      ∧ (shown .cardRd State.unsetRecord.argument none).kind = .cardRd
      ∧ (shown .cmd53Wr ⟨true, 7#3, true, false, 0x00006#17, 511#9⟩ none).kind = .cmd53Wr
      ∧ (completeState.record.kind = .irqRd ∧ completeState.record.argument.address = 0x06050#17)
      ∧ ((shown .irqClr ⟨true, 1#3, false, true, 0x06058#17, 4#9⟩ (some ⟨0x08020001#32, 0x08020001#32⟩)).kind = .irqClr
        ∧ (shown .irqClr ⟨true, 1#3, false, true, 0x06058#17, 4#9⟩ none).payload = none)
      ∧ (shown .bulkWr ⟨true, 2#3, true, true, 0x09420#17, 3#9⟩ none).kind = .bulkWr
      ∧ decodeIrqBits Config.default 0#32 = [] ∧ decodeIrqBits Config.default 0x08020001#32 ≠ [] := by decide

end Sys2Proof.Tests
end

section
/-! SUPPORT. Frame words: the bytes they stand for, the argument they hold, and the meaning the decode map gives them (spec/30_encoding.md R81, R85, R103). -/

namespace Sys2Proof.Machine

open Sys2Proof

/-! ### Fields of a bit vector -/

theorem ofBool_getLsbD {n : Nat} (x : BitVec n) (i : Nat) : BitVec.ofBool (x.getLsbD i) = x.extractLsb' i 1 := by
  ext j hj
  obtain rfl : j = 0 := by omega
  simp

theorem extractLsb'_extractLsb' {w : Nat} (x : BitVec w) {i n j k : Nat} (h : j + k ≤ n) :
    (x.extractLsb' i n).extractLsb' j k = x.extractLsb' (i + j) k := by
  ext l hl
  simp [Nat.add_assoc]
  omega

theorem extractLsb'_append_byte {n : Nat} (x : BitVec n) (b : Byte) (k : Nat) :
    (x ++ b).extractLsb' (k + 8) 8 = x.extractLsb' k 8 := by
  rw [BitVec.extractLsb'_append_eq_of_le (by omega), Nat.add_sub_cancel]

/-- A field that a mask tests whole is the pattern's. -/
theorem extractLsb'_eq_of_masked {w i n : Nat} {x m p : BitVec w} (h : x &&& m = p)
    (hm : m.extractLsb' i n = BitVec.allOnes n) : x.extractLsb' i n = p.extractLsb' i n := by
  rw [← h, BitVec.extractLsb'_and, hm, BitVec.and_allOnes]

/-! ### The layout of a row's mask and pattern (R103) -/

/-- A frame word laid out as marker, command byte, argument and CRC byte (R81): its marker. -/
theorem frameLayout_marker (m d : Byte) (a : BitVec 32) (k : Byte) : (m ++ d ++ a ++ k).extractLsb' 48 8 = m := by
  iterate 2 rw [BitVec.extractLsb'_append_eq_of_le (by decide)]
  exact BitVec.extractLsb'_append_eq_left

/-- Its argument. -/
theorem frameLayout_argument (m d : Byte) (a : BitVec 32) (k : Byte) : (m ++ d ++ a ++ k).extractLsb' 8 32 = a := by
  rw [BitVec.extractLsb'_append_eq_of_le (by decide)]
  exact BitVec.extractLsb'_append_eq_right

theorem argDirFn_direction (w : Bool) (fn : BitVec 3) : (argDirFn w fn).extractLsb' 31 1 = BitVec.ofBool w := by
  rw [argDirFn, BitVec.extractLsb'_append_eq_of_le (by decide)]
  exact BitVec.extractLsb'_append_eq_left

theorem argDirFn_function (w : Bool) (fn : BitVec 3) : (argDirFn w fn).extractLsb' 28 3 = fn := by
  rw [argDirFn, BitVec.extractLsb'_append_eq_of_le (by decide)]
  exact BitVec.extractLsb'_append_eq_right

theorem argDirAddr_direction (w : Bool) (a : BitVec 17) : (argDirAddr w a).extractLsb' 31 1 = BitVec.ofBool w := by
  rw [argDirAddr]
  iterate 2 rw [BitVec.extractLsb'_append_eq_of_le (by decide)]
  exact BitVec.extractLsb'_append_eq_left

theorem argDirAddr_address (w : Bool) (a : BitVec 17) : (argDirAddr w a).extractLsb' 9 17 = a := by
  rw [argDirAddr, BitVec.extractLsb'_append_eq_of_le (by decide)]
  exact BitVec.extractLsb'_append_eq_right

/-- Every row tests the whole marker. -/
theorem rowHits_marker {c : Config} {f : BitVec 56} {m p : BitVec 32} (h : f &&& rowMask c m = rowMatch c p) :
    f.extractLsb' 48 8 = c.startMarker :=
  (extractLsb'_eq_of_masked h (frameLayout_marker ..)).trans (frameLayout_marker ..)

/-- Where a row's mask tests a whole field of the argument, a matching frame word has the pattern's value there. -/
theorem rowHits_field {c : Config} {f : BitVec 56} {m p : BitVec 32} {i n : Nat}
    (h : f &&& rowMask c m = rowMatch c p) (hm : m.extractLsb' i n = BitVec.allOnes n) (hin : i + n ≤ 32) :
    f.extractLsb' (8 + i) n = p.extractLsb' i n := by
  have harg := congrArg (BitVec.extractLsb' 8 32) h
  rw [BitVec.extractLsb'_and, rowMask, rowMatch, frameLayout_argument, frameLayout_argument] at harg
  rw [← extractLsb'_eq_of_masked harg hm, extractLsb'_extractLsb' _ hin]

/-- Where a row's mask tests the direction bit, a matching frame word has the pattern's direction. -/
theorem rowHits_direction {c : Config} {f : BitVec 56} {m p : BitVec 32} {w : Bool}
    (h : f &&& rowMask c m = rowMatch c p) (hm : m.extractLsb' 31 1 = 1#1)
    (hp : p.extractLsb' 31 1 = BitVec.ofBool w) : f.getLsbD 39 = w := by
  rw [← BitVec.ofBool_eq_iff_eq, ofBool_getLsbD, ← hp]
  exact rowHits_field h hm (by decide)

/-! ### The argument and the bytes of a frame word -/

/-- The argument's fields, read at their places in the frame word (R81, R85). -/
def frameArgument (f : BitVec 56) : Argument where
  isWrite := f.getLsbD 39
  function := frameFunction f
  blockMode := frameBlockMode f
  incrementAddressing := frameIncrement f
  address := frameAddress f
  count := frameCount f

/-- The argument word is its fields side by side (R85, R124). -/
theorem packArgument_eq_argumentBits (t : Argument) : packArgument t = argumentBits t := by
  rw [← BitVec.setWidth_eq (argumentBits t)]
  simp only [argumentBits, packArgument, BitVec.setWidth_append_eq_shiftLeft_setWidth_or,
    BitVec.shiftLeft_or_distrib, ← BitVec.shiftLeft_add]

/-- The fields of a frame word are its bits 39 to 8 (R81, R85). -/
theorem argumentBits_frameArgument (f : BitVec 56) : argumentBits (frameArgument f) = f.extractLsb' 8 32 := by
  simp only [argumentBits, frameArgument, frameFunction, frameBlockMode, frameIncrement, frameAddress, frameCount,
    ofBool_getLsbD]
  iterate 5 rw [BitVec.extractLsb'_append_extractLsb'_eq_extractLsb' (by decide)]

/-- The frame word holds the first seven outbound bytes (R81). -/
theorem frameWord_some {out : List Byte} {f : BitVec 56} (h : frameWord out = some f) : frameBytes f = out.take 7 := by
  unfold frameWord at h
  split at h
  case h_2 => cases h
  case h_1 b0 b1 b2 b3 b4 b5 b6 rest =>
    cases h
    simp only [frameBytes, List.take_succ_cons, List.take_zero]
    simp only [extractLsb'_append_byte, BitVec.extractLsb'_append_eq_right, BitVec.extractLsb'_eq_self]

/-- The frame rebuilt from a frame word's fields has that word's bytes, once the marker is right (R81). -/
theorem frameBuffer_toList {c : Config} {f : BitVec 56} (h : f.extractLsb' 48 8 = c.startMarker) :
    (frameBuffer c (frameDir f) (frameArgument f) (frameCrc f)).toList = frameBytes f := by
  simp [frameBuffer, frameBytes, frameDir, frameCrc, encodeArgument, argumentBytes, packArgument_eq_argumentBits,
    argumentBits_frameArgument, extractLsb'_extractLsb', h]

/-! ### The rows of the decode map -/

/-- A row that fixes direction and function. -/
theorem frameArgument_of_dirFn {c : Config} {f : BitVec 56} {w : Bool} {fn : BitVec 3}
    (h : f &&& rowMask c (argDirFn true 7#3) = rowMatch c (argDirFn w fn)) :
    frameArgument f = ⟨w, fn, frameBlockMode f, frameIncrement f, frameAddress f, frameCount f⟩ := by
  have hw := rowHits_direction h (argDirFn_direction ..) (argDirFn_direction ..)
  have hfn : frameFunction f = fn := (rowHits_field h (argDirFn_function ..) (by decide)).trans (argDirFn_function ..)
  rw [frameArgument, hw, hfn]

/-- A row that fixes the direction alone. -/
theorem frameArgument_of_dir {c : Config} {f : BitVec 56} {w : Bool}
    (h : f &&& rowMask c (argDirFn true 0#3) = rowMatch c (argDirFn w 0#3)) :
    frameArgument f = ⟨w, frameFunction f, frameBlockMode f, frameIncrement f, frameAddress f, frameCount f⟩ := by
  rw [frameArgument, rowHits_direction h (argDirFn_direction ..) (argDirFn_direction ..)]

/-- A row that fixes direction and address. -/
theorem frameArgument_of_dirAddr {c : Config} {f : BitVec 56} {w : Bool} {addr : BitVec 17}
    (h : f &&& rowMask c (argDirAddr true 0x1FFFF#17) = rowMatch c (argDirAddr w addr)) :
    frameArgument f = ⟨w, frameFunction f, frameBlockMode f, frameIncrement f, addr, frameCount f⟩ := by
  have hw := rowHits_direction h (argDirAddr_direction ..) (argDirAddr_direction ..)
  have haddr : frameAddress f = addr :=
    (rowHits_field h (argDirAddr_address ..) (by decide)).trans (argDirAddr_address ..)
  rw [frameArgument, hw, haddr]

theorem mem_frameRows_layout {c : Config} {r : FrameRow} (h : r ∈ frameRows c) :
    ∃ m p, r.mask = rowMask c m ∧ r.pattern = rowMatch c p := by
  simp only [frameRows, List.mem_cons, List.not_mem_nil, or_false] at h
  rcases h with rfl | rfl | rfl | rfl | rfl | rfl | rfl | rfl | rfl | rfl <;> exact ⟨_, _, rfl, rfl⟩

/-- Each row hands the frame word's own fields to the whole-window operation: what it fixes, its mask has tested. -/
theorem exec_frameRow {s : State} {r : FrameRow} {f : BitVec 56} (hr : r ∈ frameRows s.cfg)
    (h : f &&& r.mask = r.pattern) :
    ∃ cat k irq, exec (r.build f) s = s.runFrame (frameDir f) (frameArgument f) (frameCrc f) cat k irq := by
  simp only [frameRows, List.mem_cons, List.not_mem_nil, or_false] at hr
  rcases hr with rfl | rfl | rfl | rfl | rfl | rfl | rfl | rfl | rfl | rfl
  -- rows 1 and 2: function 0; rows 3 to 6: an interrupt address; rows 7 and 8: function 2; rows 9 and 10: the rest
  iterate 2 exact ⟨_, _, _, by rw [frameArgument_of_dirFn h]; rfl⟩
  iterate 4 exact ⟨_, _, _, by rw [frameArgument_of_dirAddr h]; rfl⟩
  iterate 2 exact ⟨_, _, _, by rw [frameArgument_of_dirFn h]; rfl⟩
  iterate 2 exact ⟨_, _, _, by rw [frameArgument_of_dir h]; rfl⟩

theorem decodeFrame_ok {c : Config} {f : BitVec 56} {i : Instr} (h : decodeFrame c f = .ok i) :
    ∃ r ∈ frameRows c, f &&& r.mask = r.pattern ∧ i = r.build f := by
  unfold decodeFrame at h
  split at h
  case h_1 r hr =>
    have hits : f &&& r.mask = r.pattern := by simpa [FrameRow.hits] using List.find?_some hr
    exact ⟨r, List.mem_of_find?_eq_some hr, hits, by cases h; rfl⟩
  case h_2 => cases h

theorem decodeFrame_error {c : Config} {f : BitVec 56} {r : DecodeReject} (h : decodeFrame c f = .error r) :
    r = .badMarker ∨ r = .badCommand := by
  unfold decodeFrame at h
  split at h
  · cases h
  · split at h <;> cases h <;> simp

/-- A decoded window is run with a frame whose bytes are its first seven outbound bytes. -/
theorem exec_decodedFrame {s : State} {out : List Byte} {i : Instr} (h : decode s.cfg (.frame out) = .ok i) :
    ∃ dir arg crc cat k irq,
      (frameBuffer s.cfg dir arg crc).toList = out.take 7 ∧ exec i s = s.runFrame dir arg crc cat k irq := by
  cases hf : frameWord out with
  | none => simp [decode, hf] at h
  | some f =>
    obtain ⟨r, hr, hits, rfl⟩ := decodeFrame_ok (by simpa only [decode, hf] using h)
    obtain ⟨cat, k, irq, hexec⟩ := exec_frameRow hr hits
    obtain ⟨m, p, hm, hp⟩ := mem_frameRows_layout hr
    have hmarker := rowHits_marker (by rwa [hm, hp] at hits)
    exact ⟨_, _, _, cat, k, irq, (frameBuffer_toList hmarker).trans (frameWord_some hf), hexec⟩

end Sys2Proof.Machine
end

section
/-! SUPPORT. What one step can do, each case with its input: the inversion that the proofs about steps split on. -/

namespace Sys2Proof.Machine

open Sys2Proof

variable {s t : State}

/-! ### Events and rows of the interrupt bit table -/

theorem decodeEvent_cases (e : BitVec 10) :
    decodeEvent e = .windowStart ∨ (∃ b, decodeEvent e = .outByte b) ∨ (∃ b, decodeEvent e = .inByte b)
      ∨ decodeEvent e = .windowEnd := by
  unfold decodeEvent
  split
  · exact .inl rfl
  · exact .inr (.inl ⟨_, rfl⟩)
  · exact .inr (.inr (.inl ⟨_, rfl⟩))
  · exact .inr (.inr (.inr rfl))

theorem instrKind_decodeEvent (e : BitVec 10) : instrKind (decodeEvent e) = none := by
  rcases decodeEvent_cases e with h | ⟨b, h⟩ | ⟨b, h⟩ | h <;> rw [h] <;> rfl

theorem format_decodeEvent (e : BitVec 10) : (decodeEvent e).format = .event10 := by
  rcases decodeEvent_cases e with h | ⟨b, h⟩ | ⟨b, h⟩ | h <;> rw [h] <;> rfl

theorem format_of_mem_irqRows {n : Nat} {i : Instr} (h : (n, i) ∈ irqRows) : i.format = .pay32 := by
  have hall : ∀ p ∈ irqRows, p.2.format = .pay32 := by decide
  exact hall _ h

/-- What an interface event that goes on has done. -/
theorem exec_decodeEvent_next {e : BitVec 10} (h : exec (decodeEvent e) s = .next t) :
    (decodeEvent e = .windowStart ∧ s.win = false ∧ t = s.openWindow)
      ∨ (∃ b, decodeEvent e = .outByte b ∧ s.win = true ∧ t = s.receiveOut b)
      ∨ (∃ b, decodeEvent e = .inByte b ∧ s.win = true ∧ t = s.receiveIn b)
      ∨ (decodeEvent e = .windowEnd ∧ s.win = true ∧ s.closeWindow = .next t) := by
  rcases exec_next h with h | h | h | h | ⟨_, _, _, _, k, _, hk, _⟩ | ⟨n, hn, _⟩
  · exact .inl h
  · exact .inr (.inl h)
  · exact .inr (.inr (.inl h))
  · exact .inr (.inr (.inr h))
  · cases (instrKind_decodeEvent e).symm.trans hk
  · cases (format_decodeEvent e).symm.trans (format_of_mem_irqRows hn)

theorem exec_irqRow {n : Nat} {i : Instr} (h : (n, i) ∈ irqRows) (s : State) :
    exec i s = .next (s.reportIrq n) := by
  have hall : ∀ p ∈ irqRows, exec p.2 s = .next (s.reportIrq p.1) := by
    rw [← List.forall_iff_forall_mem]
    and_intros <;> rfl
  exact hall _ h

theorem mem_of_lookup_irqRows {n : Nat} {i : Instr} (h : irqRows.lookup n = some i) : (n, i) ∈ irqRows := by
  obtain ⟨before, after, hrows, _⟩ := List.lookup_eq_some_iff.mp h
  simp [hrows]

/-- A status value with an instruction has its position reported. -/
theorem decode_pay32_next {c : Config} {p : BitVec 32} {i : Instr} (h : decode c (.pay32 p) = .ok i)
    (he : exec i s = .next t) : ∃ n, t = s.reportIrq n := by
  rcases decodeIrq_cases c p with ⟨_, hd⟩ | ⟨n, j, _, hrow, hd⟩ | ⟨n, _, _, hd⟩
  · cases h.symm.trans hd
  · cases h.symm.trans hd
    rw [exec_irqRow (mem_of_lookup_irqRows hrow)] at he
    exact ⟨n, by cases he; rfl⟩
  · cases h.symm.trans hd

/-! ### Words that are no instruction, and no word -/

/-- A window without an instruction has its bytes captured and is rejected. -/
theorem onReject_frame {c : Config} {out : List Byte} {r : DecodeReject} (h : decode c (.frame out) = .error r)
    (hr : s.onReject r = .next t) : s.win = false ∧ t = s.rejectWindow (rejectCause r) := by
  have hframe : r = .shortFrame ∨ r = .badMarker ∨ r = .badCommand := by
    cases hf : frameWord out with
    | none => left; simpa [decode, hf] using h.symm
    | some f => exact .inr (decodeFrame_error (by simpa only [decode, hf] using h))
  rcases State.onReject_next hr with ⟨rfl, _⟩ | ⟨n, rfl, _⟩ | ⟨_, _, hw, ht⟩
  · simp at hframe
  · simp at hframe
  · exact ⟨hw, ht⟩

/-- A status value without an instruction is passed over or has its position reported. -/
theorem onReject_pay32 {c : Config} {p : BitVec 32} {r : DecodeReject} (h : decode c (.pay32 p) = .error r)
    (hr : s.onReject r = .next t) : t = s ∨ ∃ n, t = s.reportIrq n := by
  rcases State.onReject_next hr with ⟨_, ht⟩ | ⟨n, _, ht⟩ | ⟨hrow, hbit, _⟩
  · exact .inl ht
  · exact .inr ⟨n, ht⟩
  · rcases decodeIrq_cases c p with ⟨_, hd⟩ | ⟨_, _, _, _, hd⟩ | ⟨n, _, _, hd⟩ <;> cases h.symm.trans hd
    · exact absurd rfl hbit
    · exact absurd rfl (hrow n)

theorem fetch_none (h : fetch s = none) : s.input = [] ∨ ∃ rest, s.input = .reset :: rest := by
  unfold fetch at h
  split at h
  case h_1 hin => exact .inl hin
  case h_2 rest hin => exact .inr ⟨rest, hin⟩
  all_goals cases h

theorem withoutWord_nil (h : s.input = []) : s.withoutWord = s := by simp [State.withoutWord, h]

theorem withoutWord_reset {rest : List Input} (h : s.input = .reset :: rest) :
    s.withoutWord = { s.resetRegisters with input := rest } := by simp [State.withoutWord, h]

/-! ### The cases of a step -/

/-- The state after a step, by the input it took: one case for each event, whole window, scan, reset and idling. -/
inductive StepEffect (s : State) : State → Prop
  | windowStart {e rest} (hin : s.input = .event e :: rest) (he : decodeEvent e = .windowStart)
      (hw : s.win = false) : StepEffect s (State.openWindow { s with input := rest })
  | outByte {e rest b} (hin : s.input = .event e :: rest) (he : decodeEvent e = .outByte b)
      (hw : s.win = true) : StepEffect s (State.receiveOut { s with input := rest } b)
  | inByte {e rest b} (hin : s.input = .event e :: rest) (he : decodeEvent e = .inByte b)
      (hw : s.win = true) : StepEffect s (State.receiveIn { s with input := rest } b)
  | windowEnd {e rest t} (hin : s.input = .event e :: rest) (he : decodeEvent e = .windowEnd)
      (hw : s.win = true) (hclose : State.closeWindow { s with input := rest } = .next t) : StepEffect s t
  | frame {out inb rest dir arg crc cat k irq t} (hin : s.input = .window out inb :: rest)
      (hbytes : (frameBuffer s.cfg dir arg crc).toList = out.take 7)
      (hrun : State.runFrame { s.loadWindow out inb with input := rest } dir arg crc cat k irq = .next t) :
      StepEffect s t
  | badFrame {out inb rest k} (hin : s.input = .window out inb :: rest) (hw : s.win = false) :
      StepEffect s (State.rejectWindow { s.loadWindow out inb with input := rest } k)
  | scan {v k rest irqOut input} (hin : s.input = .irqScan v k :: rest) :
      StepEffect s { s with irqOut := irqOut, input := input }
  | reset {rest} (hin : s.input = .reset :: rest) : StepEffect s { s.resetRegisters with input := rest }
  | idle (hin : s.input = []) : StepEffect s s

/-- Every step that goes on is one of these cases. -/
theorem step_effect (h : step s = .next t) : StepEffect s t := by
  rcases step_next h with ⟨w, u, i, hf, hd, he⟩ | ⟨w, u, r, hf, hd, hr⟩ | ⟨hf, rfl⟩
  · rcases fetch_some hf with ⟨e, rest, hin, rfl, rfl⟩ | ⟨out, inb, rest, hin, rfl, rfl⟩ | ⟨v, k, rest, hin, rfl, rfl⟩
    · cases hd
      rcases exec_decodeEvent_next he with ⟨hi, hw, rfl⟩ | ⟨b, hi, hw, rfl⟩ | ⟨b, hi, hw, rfl⟩ | ⟨hi, hw, hclose⟩
      · exact .windowStart hin hi hw
      · exact .outByte hin hi hw
      · exact .inByte hin hi hw
      · exact .windowEnd hin hi hw hclose
    · obtain ⟨dir, arg, crc, cat, k, irq, hbytes, hrun⟩ := exec_decodedFrame hd
      exact .frame hin hbytes (hrun ▸ he)
    · obtain ⟨n, rfl⟩ := decode_pay32_next hd he
      exact .scan hin
  · rcases fetch_some hf with ⟨e, rest, hin, rfl, rfl⟩ | ⟨out, inb, rest, hin, rfl, rfl⟩ | ⟨v, k, rest, hin, rfl, rfl⟩
    · cases hd
    · obtain ⟨hw, rfl⟩ := onReject_frame hd hr
      exact .badFrame hin hw
    · rcases onReject_pay32 hd hr with rfl | ⟨n, rfl⟩ <;> exact .scan hin
  · rcases fetch_none hf with hin | ⟨rest, hin⟩
    · rw [withoutWord_nil hin]; exact .idle hin
    · rw [withoutWord_reset hin]; exact .reset hin

/-! ### What a captured byte and the end of a window leave alone -/

theorem State.captureOut_frame (s : State) (b : Byte) :
    ∃ st ocnt obuf, s.captureOut b = { s with st := st, ocnt := ocnt, obuf := obuf } := by
  rcases s.captureOut_cases b with ⟨_, h⟩ | ⟨_, h⟩ | ⟨_, h⟩ <;> exact ⟨_, _, _, h⟩

/-- After an outbound byte only the state machine, the outbound registers and the sequence `OUT` may differ. -/
theorem State.receiveOut_frame (s : State) (b : Byte) :
    ∃ st ocnt obuf, s.receiveOut b =
      { s with st := st, ocnt := ocnt, obuf := obuf, outSeq := s.outSeq ++ [b] } := by
  obtain ⟨st, ocnt, obuf, h⟩ := s.captureOut_frame b
  exact ⟨st, ocnt, obuf, by rw [State.receiveOut, h]⟩

section
variable (s : State) (b : Byte)

@[simp] theorem State.receiveOut_win : (s.receiveOut b).win = s.win := by
  obtain ⟨_, _, _, h⟩ := s.receiveOut_frame b; rw [h]
@[simp] theorem State.receiveOut_cfg : (s.receiveOut b).cfg = s.cfg := by
  obtain ⟨_, _, _, h⟩ := s.receiveOut_frame b; rw [h]
@[simp] theorem State.receiveOut_input : (s.receiveOut b).input = s.input := by
  obtain ⟨_, _, _, h⟩ := s.receiveOut_frame b; rw [h]
@[simp] theorem State.receiveOut_outSeq : (s.receiveOut b).outSeq = s.outSeq ++ [b] := rfl
@[simp] theorem State.receiveOut_inSeq : (s.receiveOut b).inSeq = s.inSeq := by
  obtain ⟨_, _, _, h⟩ := s.receiveOut_frame b; rw [h]

@[simp] theorem State.receiveIn_win : (s.receiveIn b).win = s.win := rfl
@[simp] theorem State.receiveIn_cfg : (s.receiveIn b).cfg = s.cfg := rfl
@[simp] theorem State.receiveIn_input : (s.receiveIn b).input = s.input := rfl
@[simp] theorem State.receiveIn_outSeq : (s.receiveIn b).outSeq = s.outSeq := rfl
@[simp] theorem State.receiveIn_inSeq : (s.receiveIn b).inSeq = s.inSeq ++ [b] := rfl

end

theorem State.closeWindow_cfg (h : s.closeWindow = .next t) : t.cfg = s.cfg := by
  rcases State.closeWindow_next h with ⟨_, rfl⟩ | ⟨_, rfl⟩ | ⟨_, rfl⟩ <;> rfl

end Sys2Proof.Machine
end

section
/-! SUPPORT. The invariant (spec/10_state.md R36) in parts: the two channels' counters and buffers, and the state machine in an open window and between windows. -/

namespace Sys2Proof.Machine

open Sys2Proof

variable {s t : State}

/-! ### The channels -/

/-- R36 (a) and (b): a counter and a buffer of the outbound channel as the sequence delivered on it leaves them. -/
structure OutTracked (n : BitVec 3) (v : Vector Byte 7) (seq : List Byte) : Prop where
  count : n.toNat = min frameLen seq.length
  bytes : ∀ i, i < n.toNat → v[i]? = seq[i]?

/-- R36 (a) and (c): a counter and a buffer of the inbound channel as the sequence delivered on it leaves them. -/
structure InTracked (c : Config) (n : BitVec 4) (v : Vector Byte 4) (seq : List Byte) : Prop where
  count : n.toNat = min c.payloadEnd seq.length
  bytes : ∀ j, j < payloadLen → c.payloadOffset.val + j < n.toNat → v[j]? = seq[c.payloadOffset.val + j]?

theorem Inv.outTracked (h : Inv s) : OutTracked s.ocnt s.obuf s.outSeq := ⟨h.outCount, h.outBytes⟩

theorem Inv.inTracked (h : Inv s) : InTracked s.cfg s.icnt s.ibuf s.inSeq := ⟨h.inCount, h.inBytes⟩

/-- With `PAYLOAD_OFFSET` at most 11, `icnt` holds its saturation value (R10, U12). -/
theorem payloadEnd_lt (c : Config) : c.payloadEnd < 16 := by
  have := c.payloadOffset.isLt
  simp only [Config.payloadEnd, payloadLen]
  omega

theorem OutTracked.nil (v : Vector Byte 7) : OutTracked 0#3 v [] := ⟨rfl, nofun⟩

theorem InTracked.nil (c : Config) (v : Vector Byte 4) : InTracked c 0#4 v [] := ⟨by simp, nofun⟩

/-- One more outbound byte, stored and counted. -/
theorem OutTracked.store {n : BitVec 3} {v : Vector Byte 7} {seq : List Byte} (h : OutTracked n v seq)
    (hn : n.toNat < 7) (b : Byte) : OutTracked (n + 1#3) (v.setIfInBounds n.toNat b) (seq ++ [b]) := by
  obtain ⟨hcount, hbytes⟩ := h
  have hlen : seq.length = n.toNat := by simp only [frameLen] at hcount; omega
  have hsucc : (n + 1#3).toNat = n.toNat + 1 := by simp; omega
  refine ⟨by simp [hsucc, hlen, frameLen]; omega, fun i hi => ?_⟩
  rw [Vector.getElem?_setIfInBounds, List.getElem?_append]
  rcases Nat.lt_or_ge i n.toNat with hlt | hge
  · rw [if_neg (by omega), if_pos (by omega), hbytes i hlt]
  · obtain rfl : i = n.toNat := by omega
    simp [hlen, hn]

/-- One more outbound byte after the seventh. -/
theorem OutTracked.ignore {n : BitVec 3} {v : Vector Byte 7} {seq : List Byte} (h : OutTracked n v seq)
    (hn : n.toNat = 7) (b : Byte) : OutTracked n v (seq ++ [b]) := by
  obtain ⟨hcount, hbytes⟩ := h
  simp only [frameLen] at hcount
  refine ⟨by simp [frameLen]; omega, fun i hi => ?_⟩
  rw [List.getElem?_append_left (by omega), hbytes i hi]

/-- A payload byte already counted stays where it is. -/
theorem InTracked.bytes_append {c : Config} {n : BitVec 4} {v : Vector Byte 4} {seq : List Byte}
    (h : InTracked c n v seq) (b : Byte) {j : Nat} (hj : j < payloadLen) (hlt : c.payloadOffset.val + j < n.toNat) :
    v[j]? = (seq ++ [b])[c.payloadOffset.val + j]? := by
  have hcount := h.count
  rw [List.getElem?_append_left (by omega), h.bytes j hj hlt]

/-- Below saturation `icnt` counts one more inbound byte (R23). -/
theorem InTracked.count_append {c : Config} {n : BitVec 4} {v : Vector Byte 4} {seq : List Byte}
    (h : InTracked c n v seq) (hn : n.toNat < c.payloadEnd) (b : Byte) :
    (n + 1#4).toNat = n.toNat + 1 ∧ (n + 1#4).toNat = min c.payloadEnd (seq ++ [b]).length := by
  have hcount := h.count
  have hend := payloadEnd_lt c
  have hsucc : (n + 1#4).toNat = n.toNat + 1 := by simp; omega
  exact ⟨hsucc, by simp [hsucc]; omega⟩

/-- One more inbound byte before the payload: counted. -/
theorem InTracked.skip {c : Config} {n : BitVec 4} {v : Vector Byte 4} {seq : List Byte} (h : InTracked c n v seq)
    (hn : n.toNat < c.payloadOffset.val) (b : Byte) : InTracked c (n + 1#4) v (seq ++ [b]) := by
  obtain ⟨hsucc, hcount⟩ := h.count_append (Nat.lt_of_lt_of_le hn (Nat.le_add_right ..)) b
  exact ⟨hcount, fun j hj hlt => absurd hlt (by omega)⟩

/-- One more inbound byte of the payload: stored and counted. -/
theorem InTracked.store {c : Config} {n : BitVec 4} {v : Vector Byte 4} {seq : List Byte} (h : InTracked c n v seq)
    (hlo : c.payloadOffset.val ≤ n.toNat) (hhi : n.toNat < c.payloadEnd) (b : Byte) :
    InTracked c (n + 1#4) (v.setIfInBounds (n.toNat - c.payloadOffset.val) b) (seq ++ [b]) := by
  obtain ⟨hsucc, hcount⟩ := h.count_append hhi b
  refine ⟨hcount, fun j hj hlt => ?_⟩
  have hlen := h.count
  rw [Vector.getElem?_setIfInBounds]
  rcases Nat.lt_or_ge (c.payloadOffset.val + j) n.toNat with hold | hnew
  · rw [if_neg (by omega), h.bytes_append b hj hold]
  · have hidx : c.payloadOffset.val + j = seq.length := by omega
    rw [if_pos (by omega), if_pos (by simp only [payloadLen] at hj; omega), hidx, List.getElem?_concat_length]

/-- One more inbound byte after the payload. -/
theorem InTracked.ignore {c : Config} {n : BitVec 4} {v : Vector Byte 4} {seq : List Byte} (h : InTracked c n v seq)
    (hn : c.payloadEnd ≤ n.toNat) (b : Byte) : InTracked c n v (seq ++ [b]) := by
  have hcount := h.count
  exact ⟨by simp; omega, fun j hj hlt => h.bytes_append b hj hlt⟩

/-- A whole outbound sequence, filled into the buffer at once. -/
theorem OutTracked.fill (v : Vector Byte 7) (seq : List Byte) :
    OutTracked (BitVec.ofNat 3 (min frameLen seq.length)) (fillFrom v 0 seq) seq := by
  have hcount : (BitVec.ofNat 3 (min frameLen seq.length)).toNat = min frameLen seq.length := by
    simp [frameLen]
  refine ⟨hcount, fun i hi => ?_⟩
  simp only [frameLen] at hcount hi
  rw [fillFrom_getElem?, if_pos (by omega), Nat.sub_zero]

/-- A whole inbound sequence, its payload filled into the buffer at once. -/
theorem InTracked.fill (c : Config) (v : Vector Byte 4) (seq : List Byte) :
    InTracked c (BitVec.ofNat 4 (min c.payloadEnd seq.length)) (fillFrom v 0 (seq.drop c.payloadOffset.val)) seq := by
  have hend := payloadEnd_lt c
  have hcount : (BitVec.ofNat 4 (min c.payloadEnd seq.length)).toNat = min c.payloadEnd seq.length := by
    simp; omega
  refine ⟨hcount, fun j hj hlt => ?_⟩
  simp only [payloadLen] at hj
  rw [fillFrom_getElem?, if_pos (by rw [List.length_drop]; omega), List.getElem?_drop, Nat.sub_zero]

/-- The seven bytes a whole outbound sequence begins with. -/
theorem OutTracked.of_take {v : Vector Byte 7} {seq : List Byte} (h : v.toList = seq.take 7) :
    OutTracked 7#3 v seq := by
  have hlen := congrArg List.length h
  simp only [Vector.length_toList, List.length_take] at hlen
  refine ⟨by simp [frameLen]; omega, fun i hi => ?_⟩
  rw [← Vector.getElem?_toList, h, List.getElem?_take_of_lt (by simpa using hi)]

/-! ### The invariant by the state of the window -/

/-- A complete frame leads to neither of the two states outside its evaluation. -/
theorem frameState_ne (c : Config) (v : Vector Byte 7) :
    frameState c v ≠ .awaitingFrame ∧ frameState c v ≠ .complete := by
  rcases frameState_cases c v with h | h | h <;> simp [h]

/-- What `st` is inside a window with `n` outbound bytes seen (R177, R178). -/
def windowFsm (c : Config) (n : BitVec 3) (v : Vector Byte 7) : FsmState :=
  if n.toNat = frameLen then frameState c v else .awaitingFrame

/-- The invariant inside a window. -/
theorem inv_iff_of_open (hw : s.win = true) :
    Inv s ↔ OutTracked s.ocnt s.obuf s.outSeq ∧ InTracked s.cfg s.icnt s.ibuf s.inSeq ∧ s.recValid = false
      ∧ s.st = windowFsm s.cfg s.ocnt s.obuf := by
  have hle : s.ocnt.toNat ≤ frameLen := by have := s.ocnt.isLt; simp only [frameLen]; omega
  constructor
  · intro h
    refine ⟨h.outTracked, h.inTracked, ?_, ?_⟩
    · rw [Bool.eq_false_iff]
      intro hv
      exact absurd (h.valid hv).2 (by simp [hw])
    · unfold windowFsm
      split
      case isTrue hn => exact h.decided hw hn
      case isFalse hn =>
        cases hst : s.st with
        | awaitingFrame => rfl
        | frameRecognized => exact absurd (h.recognized (.inl hst)).2 hn
        | payloadPending => exact absurd (h.recognized (.inr hst)).2 hn
        | complete => exact absurd (h.complete hst) (by simp [hw])
        | rejected => exact absurd (h.rejected hst hw) hn
  · rintro ⟨hout, hin, hv, hst⟩
    have hfull : s.st ≠ .awaitingFrame → s.ocnt.toNat = frameLen := by
      intro hne
      by_contra hn
      exact hne (by rw [hst, windowFsm, if_neg hn])
    have hdecided : s.ocnt.toNat = frameLen → s.st = frameState s.cfg s.obuf := by
      intro hn
      rw [hst, windowFsm, if_pos hn]
    exact
      { outCount := hout.count
        inCount := hin.count
        outBytes := hout.bytes
        inBytes := hin.bytes
        awaiting := fun ha =>
          .inr ⟨hw, Nat.lt_of_le_of_ne hle fun hn => (frameState_ne ..).1 ((hdecided hn).symm.trans ha)⟩
        recognized := by rintro (h | h) <;> exact ⟨hw, hfull (by simp [h])⟩
        complete := fun hc =>
          absurd ((hdecided (hfull (by simp [hc]))).symm.trans hc) (frameState_ne ..).2
        valid := by simp [hv]
        rejected := fun hr _ => hfull (by simp [hr])
        decided := fun _ hn => hdecided hn }

/-- The invariant after the end of a window. -/
theorem inv_of_ended (hw : s.win = false) (hst : s.st = .complete ∨ (s.st = .rejected ∧ s.recValid = false))
    (hout : OutTracked s.ocnt s.obuf s.outSeq) (hin : InTracked s.cfg s.icnt s.ibuf s.inSeq) : Inv s where
  outCount := hout.count
  inCount := hin.count
  outBytes := hout.bytes
  inBytes := hin.bytes
  awaiting h := by simp [h] at hst
  recognized h := by rcases h with h | h <;> simp [h] at hst
  complete _ := hw
  valid h := ⟨by simpa [h] using hst, hw⟩
  rejected _ h := by simp [hw] at h
  decided h := by simp [hw] at h

/-- The invariant before the first window after reset. -/
theorem inv_of_fresh (hst : s.st = .awaitingFrame) (hw : s.win = false) (hocnt : s.ocnt = 0#3) (hicnt : s.icnt = 0#4)
    (hv : s.recValid = false) (hc : s.cause = .none) (hout : s.outSeq = []) (hin : s.inSeq = []) : Inv s where
  outCount := by simp [hocnt, hout]
  inCount := by simp [hicnt, hin]
  outBytes := by simp [hocnt]
  inBytes := by simp [hicnt]
  awaiting _ := .inl ⟨hw, hocnt, hicnt, hv, hc⟩
  recognized h := by simp [hst] at h
  complete h := by simp [hst] at h
  valid h := by simp [hv] at h
  rejected h := by simp [hst] at h
  decided h := by simp [hw] at h

/-- The invariant does not read what is to be delivered nor what the interrupt-status decoder has reported. -/
theorem Inv.of_delivery (h : Inv s) (irqOut : List Nat) (input : List Input) :
    Inv { s with irqOut := irqOut, input := input } :=
  { h with }

/-! ### Operations that establish or keep the invariant -/

/-- `WINDOW_START` establishes the invariant, whatever the state before. -/
theorem State.openWindow_inv (s : State) : Inv s.openWindow :=
  (inv_iff_of_open rfl).mpr ⟨.nil _, .nil _ _, rfl, rfl⟩

theorem Inv.receiveOut (h : Inv s) (hw : s.win = true) (b : Byte) : Inv (s.receiveOut b) := by
  obtain ⟨hout, hin, hv, hst⟩ := (inv_iff_of_open hw).mp h
  unfold State.receiveOut
  rcases s.captureOut_cases b with ⟨hn, heq⟩ | ⟨hn, heq⟩ | ⟨hn, heq⟩ <;> rw [heq] <;>
    refine (inv_iff_of_open (by exact hw)).mpr ⟨?_, hin, hv, ?_⟩
  · exact hout.ignore hn b
  · exact hst
  · exact hout.store (by omega) b
  · have hsucc : (s.ocnt + 1#3).toNat ≠ frameLen := by simp [frameLen]; omega
    rw [hst, windowFsm, windowFsm, if_neg hsucc, if_neg (by simp only [frameLen]; omega)]
  · have hcnt : s.ocnt = 6#3 := BitVec.eq_of_toNat_eq hn
    simpa [hcnt] using hout.store (by omega) b
  · rfl

theorem Inv.receiveIn (h : Inv s) (hw : s.win = true) (b : Byte) : Inv (s.receiveIn b) := by
  obtain ⟨hout, hin, hv, hst⟩ := (inv_iff_of_open hw).mp h
  unfold State.receiveIn
  rcases s.captureIn_cases b with ⟨hn, heq⟩ | ⟨hlo, hhi, heq⟩ | ⟨hn, heq⟩ <;> rw [heq] <;>
    refine (inv_iff_of_open (by exact hw)).mpr ⟨hout, ?_, hv, hst⟩
  · exact hin.skip hn b
  · exact hin.store hlo hhi b
  · exact hin.ignore hn b

theorem Inv.closeWindow (h : Inv s) (hc : s.closeWindow = .next t) : Inv t := by
  rcases State.closeWindow_next hc with ⟨_, rfl⟩ | ⟨_, rfl⟩ | ⟨_, rfl⟩
  · exact inv_of_ended rfl (.inr ⟨rfl, rfl⟩) h.outTracked h.inTracked
  · exact inv_of_ended rfl (.inr ⟨rfl, rfl⟩) h.outTracked h.inTracked
  · exact inv_of_ended rfl (.inl rfl) h.outTracked h.inTracked

/-- A frame row with the window's own bytes establishes the invariant. -/
theorem inv_of_runFrame {dir crc : Byte} {arg : Argument} {cat : Category} {k : Kind} {irq : IrqKind}
    (hbytes : (frameBuffer s.cfg dir arg crc).toList = s.outSeq.take 7)
    (h : s.runFrame dir arg crc cat k irq = .next t) : Inv t := by
  obtain ⟨_, rfl⟩ := State.runFrame_next h
  exact inv_of_ended rfl (.inl rfl) (.of_take hbytes) (.fill ..)

/-- A rejected window establishes the invariant. -/
theorem State.rejectWindow_inv (s : State) (k : Cause) : Inv (s.rejectWindow k) :=
  inv_of_ended rfl (.inr ⟨rfl, rfl⟩) (.fill ..) (.fill ..)

end Sys2Proof.Machine
end

section
/-! SUPPORT. The outcome of a window: its end gives what PARSE_WINDOW gives for the delivered bytes, in any interleaving (spec/43_assembler.md R171, R190). -/

namespace Sys2Proof.Machine

open Sys2Proof

variable {s t : State}

/-! ### The buffers hold what PARSE_WINDOW reads -/

theorem memRead_eq_none {l : List Byte} {i n : Nat} (h : l.length < i + n) : memRead l i n = none := by
  rw [memRead, if_neg (by omega)]

/-- A read of a sequence whose bytes stand in a buffer. -/
theorem memRead_eq_buffer {n i : Nat} {v : Vector Byte n} {l : List Byte} (hlen : i + n ≤ l.length)
    (h : ∀ j, j < n → v[j]? = l[i + j]?) : memRead l i n = some v.toList := by
  rw [memRead, if_pos hlen, Option.some_inj]
  refine List.ext_getElem? fun j => ?_
  rw [Vector.getElem?_toList, List.getElem?_take, List.getElem?_drop]
  split
  case isTrue hj => exact (h j hj).symm
  case isFalse hj => exact (Vector.getElem?_eq_none (by omega)).symm

theorem bytes7?_toList (v : Vector Byte 7) : bytes7? v.toList = some v := by
  obtain ⟨⟨l⟩, hl⟩ := v
  match l, hl with
  | [_, _, _, _, _, _, _], _ => rfl

theorem bytes4?_toList (v : Vector Byte 4) : bytes4? v.toList = some (ibufPayload v) := by
  obtain ⟨⟨l⟩, hl⟩ := v
  match l, hl with
  | [_, _, _, _], _ => rfl

/-- The seven bytes of a whole frame stand in the outbound buffer. -/
theorem OutTracked.frame {n : BitVec 3} {v : Vector Byte 7} {seq : List Byte} (h : OutTracked n v seq) :
    (memRead seq 0 frameLen).bind bytes7? = if n.toNat = frameLen then some v else none := by
  have hcount := h.count
  split
  case isTrue hn =>
    have hread : memRead seq 0 frameLen = some v.toList :=
      memRead_eq_buffer (by simp only [frameLen] at *; omega) fun j hj =>
        (h.bytes j (hn ▸ hj)).trans (by rw [Nat.zero_add])
    rw [hread, Option.bind_some, bytes7?_toList]
  case isFalse hn => rw [memRead_eq_none (by omega), Option.bind_none]

/-- The four bytes of a whole payload stand in the inbound buffer. -/
theorem InTracked.payload {c : Config} {n : BitVec 4} {v : Vector Byte 4} {seq : List Byte} (h : InTracked c n v seq) :
    payloadOf c seq = if n.toNat = c.payloadEnd then some (decodePayload (ibufPayload v)) else none := by
  have hcount := h.count
  have hend : c.payloadEnd = c.payloadOffset.val + payloadLen := rfl
  unfold payloadOf
  split
  case isTrue hn =>
    have hread : memRead seq c.payloadOffset.val payloadLen = some v.toList :=
      memRead_eq_buffer (by simp only [payloadLen] at *; omega) fun j hj =>
        h.bytes j hj (by simp only [payloadLen] at *; omega)
    rw [hread, Option.bind_some, bytes4?_toList, Option.map_some]
  case isFalse hn => rw [memRead_eq_none (by omega), Option.bind_none, Option.map_none]

theorem frameCheck_badMarker {c : Config} {m d : Byte} (h : frameCheck c m d = .badMarker) : m ≠ c.startMarker := by
  unfold frameCheck at h
  split at h
  case isTrue hm => exact hm
  case isFalse => split at h <;> cases h

theorem frameCheck_badCommand {c : Config} {m d : Byte} (h : frameCheck c m d = .badCommand) : m = c.startMarker := by
  unfold frameCheck at h
  split at h
  case isTrue => cases h
  case isFalse hm => exact not_not.mp hm

/-! ### The end of a window -/

/-- The outcome of a window as its end leaves it: what `PARSE_WINDOW` gives, and `st` by whether there is a record. -/
def HasOutcome (t : State) (outcome : Option Transaction × Cause) : Prop :=
  (t.output, t.cause) = outcome ∧ t.st = if outcome.1.isSome then .complete else .rejected

theorem hasOutcome_takeMalformed (s : State) (k : Cause) : HasOutcome (s.takeMalformed k) (none, k) := ⟨rfl, rfl⟩

theorem hasOutcome_emit (s : State) (r : Transaction) (k : Cause) : HasOutcome (s.emit r k) (some r, k) := ⟨rfl, rfl⟩

/-- The end of a window whose frame is recognised emits what `PARSE_WINDOW` takes from the inbound sequence. -/
theorem closeWindow_of_recognized {irq : IrqKind} (hin : InTracked s.cfg s.icnt s.ibuf s.inSeq)
    (hst : s.st = if irq = .none then .frameRecognized else .payloadPending) :
    s.closeWindow = .next (s.emit
      (classifiedRecord s.cfg (decodeArgument (obufArgument s.obuf)) (windowPayload s.cfg irq s.inSeq).1)
      (windowPayload s.cfg irq s.inSeq).2) := by
  by_cases hirq : irq = .none
  · rw [if_pos hirq] at hst
    simp only [State.closeWindow, hst, State.capturedPayload, windowPayload, hirq, if_true, reduceCtorEq,
      false_and, if_false]
  · rw [if_neg hirq] at hst
    by_cases hn : s.icnt.toNat = s.cfg.payloadEnd
    · simp [State.closeWindow, hst, State.capturedPayload, windowPayload, hirq, hin.payload, hn]
    · simp [State.closeWindow, hst, State.capturedPayload, windowPayload, hirq, hin.payload, hn]

/-- The end of an open window has the outcome PARSE_WINDOW gives its two sequences (R190). -/
theorem Inv.closeWindow_hasOutcome (h : Inv s) (hw : s.win = true) :
    ∃ t, s.closeWindow = .next t ∧ HasOutcome t (parseWindow s.cfg s.outSeq s.inSeq) := by
  obtain ⟨hout, hin, _, hst⟩ := (inv_iff_of_open hw).mp h
  by_cases hn : s.ocnt.toNat = frameLen
  · rw [windowFsm, if_pos hn] at hst
    have hframe : (memRead s.outSeq 0 frameLen).bind bytes7? = some s.obuf := by rw [hout.frame, if_pos hn]
    cases hc : frameCheck s.cfg (splitFrame s.obuf).startMarker (splitFrame s.obuf).directionAndIndex with
    | ok =>
      simp only [frameState, hc] at hst
      simp only [parseWindow, hframe, hc]
      exact ⟨_, closeWindow_of_recognized hin hst, hasOutcome_emit ..⟩
    | badMarker =>
      simp only [frameState, hc] at hst
      simp only [parseWindow, hframe, hc, State.closeWindow, hst, if_pos (frameCheck_badMarker hc)]
      exact ⟨_, rfl, hasOutcome_takeMalformed ..⟩
    | badCommand =>
      simp only [frameState, hc] at hst
      simp only [parseWindow, hframe, hc, State.closeWindow, hst, if_neg (not_not.mpr (frameCheck_badCommand hc))]
      exact ⟨_, rfl, hasOutcome_takeMalformed ..⟩
  · rw [windowFsm, if_neg hn] at hst
    simp only [parseWindow, hout.frame, if_neg hn, State.closeWindow, hst]
    exact ⟨_, rfl, hasOutcome_takeMalformed ..⟩

/-! ### A window delivered event by event -/

theorem step_event {e : BitVec 10} {rest : List Input} (h : s.input = .event e :: rest) :
    step s = exec (decodeEvent e) { s with input := rest } := by
  simp only [step, fetch, h, decode]

theorem run_succ_of_step {k : Nat} (h : step s = .next t) :
    Host.Core.run Sys2Proof.core (k + 1) s = Host.Core.run Sys2Proof.core k t := by
  have hcore : Sys2Proof.core.step s = .next t := h
  simp only [Host.Core.run, hcore]

theorem decodeEvent_packEvent (code : BitVec 2) (b : Byte) :
    decodeEvent (packEvent code b) =
      if code = 0#2 then .windowStart else if code = 1#2 then .outByte b else if code = 2#2 then .inByte b
      else .windowEnd := by
  have hcodes : ∀ c : BitVec 2, c = 0#2 ∨ c = 1#2 ∨ c = 2#2 ∨ c = 3#2 := by decide
  have hcode : (packEvent code b).extractLsb' 8 2 = code := BitVec.extractLsb'_append_eq_left
  have hdata : (packEvent code b).extractLsb' 0 8 = b := BitVec.extractLsb'_append_eq_right
  rw [decodeEvent, hcode, hdata]
  rcases hcodes code with rfl | rfl | rfl | rfl <;> rfl

/-- `t` is the open window of `s` after the given bytes, with `rest` still to be delivered. -/
structure Delivered (bytes : List BusByte) (rest : List Input) (s t : State) : Prop where
  inv : Inv t
  win : t.win = true
  cfg : t.cfg = s.cfg
  input : t.input = rest
  outSeq : t.outSeq = s.outSeq ++ outBytes bytes
  inSeq : t.inSeq = s.inSeq ++ inBytes bytes

theorem outBytes_cons (b : BusByte) (bytes : List BusByte) :
    outBytes (b :: bytes) = outBytes [b] ++ outBytes bytes := by
  cases b <;> rfl

theorem inBytes_cons (b : BusByte) (bytes : List BusByte) :
    inBytes (b :: bytes) = inBytes [b] ++ inBytes bytes := by
  cases b <;> rfl

theorem Delivered.cons {b : BusByte} {bytes : List BusByte} {rest' rest : List Input} {u : State}
    (h : Delivered [b] rest' s u) (h' : Delivered bytes rest u t) : Delivered (b :: bytes) rest s t where
  inv := h'.inv
  win := h'.win
  cfg := h'.cfg.trans h.cfg
  input := h'.input
  outSeq := by rw [h'.outSeq, h.outSeq, outBytes_cons b bytes, List.append_assoc]
  inSeq := by rw [h'.inSeq, h.inSeq, inBytes_cons b bytes, List.append_assoc]

/-- `WINDOW_START` between windows is one step. -/
theorem step_windowStart {b : Byte} {rest : List Input} (hw : s.win = false)
    (hin : s.input = .event (packEvent 0#2 b) :: rest) :
    ∃ t, step s = .next t ∧ Delivered [] rest s.openWindow t := by
  have hstep : step s = .next (State.openWindow { s with input := rest }) := by
    rw [step_event hin, decodeEvent_packEvent]
    simp [exec, execWindowStart, hw]
  exact ⟨_, hstep, State.openWindow_inv _, rfl, rfl, rfl, rfl, rfl⟩

/-- One byte of the open window is one step. -/
theorem step_byte {b : BusByte} {rest : List Input} (h : Inv s) (hw : s.win = true) (hin : s.input = b.input :: rest) :
    ∃ t, step s = .next t ∧ Delivered [b] rest s t := by
  have hrest := h.of_delivery s.irqOut rest
  cases b with
  | out b =>
    have hstep : step s = .next (State.receiveOut { s with input := rest } b) := by
      rw [step_event hin, decodeEvent_packEvent]
      simp [exec, execOutByte, hw]
    exact ⟨_, hstep, hrest.receiveOut hw b, by simp [hw], by simp, by simp, by simp [outBytes], by simp [inBytes]⟩
  | inb b =>
    have hstep : step s = .next (State.receiveIn { s with input := rest } b) := by
      rw [step_event hin, decodeEvent_packEvent]
      simp [exec, execInByte, hw]
    exact ⟨_, hstep, hrest.receiveIn hw b, by simp [hw], by simp, by simp, by simp [outBytes], by simp [inBytes]⟩

/-- The bytes of a window, in any interleaving, one step each. -/
theorem run_bytes (bytes : List BusByte) (rest : List Input) (k : Nat) (h : Inv s) (hw : s.win = true)
    (hin : s.input = bytes.map BusByte.input ++ rest) :
    ∃ t, Delivered bytes rest s t
      ∧ Host.Core.run Sys2Proof.core (bytes.length + k) s = Host.Core.run Sys2Proof.core k t := by
  induction bytes generalizing s with
  | nil =>
    exact ⟨s, ⟨h, hw, rfl, hin, (List.append_nil _).symm, (List.append_nil _).symm⟩, by
      rw [List.length_nil, Nat.zero_add]⟩
  | cons b bytes ih =>
    obtain ⟨u, hstep, hu⟩ := step_byte h hw hin
    obtain ⟨t, ht, hrun⟩ := ih hu.inv hu.win hu.input
    exact ⟨t, hu.cons ht, by rw [List.length_cons, Nat.add_right_comm, run_succ_of_step hstep, hrun]⟩

/-- `WINDOW_END` on an open window is one step, with the window's outcome. -/
theorem step_windowEnd {b : Byte} {rest : List Input} (h : Inv s) (hw : s.win = true)
    (hin : s.input = .event (packEvent 3#2 b) :: rest) :
    ∃ t, step s = .next t ∧ HasOutcome t (parseWindow s.cfg s.outSeq s.inSeq) := by
  obtain ⟨t, hclose, hoc⟩ := (h.of_delivery s.irqOut rest).closeWindow_hasOutcome hw
  refine ⟨t, ?_, hoc⟩
  rw [step_event hin, decodeEvent_packEvent]
  simpa [exec, execWindowEnd, hw] using hclose

/-- From any state between windows, a window's events run to the outcome PARSE_WINDOW gives its bytes. -/
theorem run_windowEvents (bytes : List BusByte) (hw : s.win = false) :
    ∃ t : State,
      Host.Core.run Sys2Proof.core (bytes.length + 2) ({ s with input := windowEvents bytes } : State) = .next t
        ∧ HasOutcome t (parseWindow s.cfg (outBytes bytes) (inBytes bytes)) := by
  obtain ⟨r, hstart, hr⟩ := step_windowStart (s := { s with input := windowEvents bytes }) hw rfl
  obtain ⟨u, hu, hbytes⟩ := run_bytes bytes [.event (packEvent 3#2 0#8)] 1 hr.inv hr.win hr.input
  obtain ⟨t, hend, hoc⟩ := step_windowEnd hu.inv hu.win hu.input
  rw [hu.cfg, hu.outSeq, hu.inSeq, hr.cfg, hr.outSeq, hr.inSeq] at hoc
  refine ⟨t, ?_, hoc⟩
  rw [run_succ_of_step hstart, hbytes, run_succ_of_step hend]
  rfl

end Sys2Proof.Machine
end

section
/-! CERTIFICATES. The statements about the registers, reset and the enumerations (spec/10_state.md). -/

namespace Sys2Proof.Machine

open Sys2Proof

/-- Settles O43, by the cases of a step and the lemma that each operation keeps the invariant. -/
theorem stepKeepsInvariant : Obligations.StepKeepsInvariant := by
  intro s t h hstep
  cases step_effect hstep with
  | windowStart => exact State.openWindow_inv _
  | @outByte _ rest b _ _ hw => exact (h.of_delivery s.irqOut rest).receiveOut hw b
  | @inByte _ rest b _ _ hw => exact (h.of_delivery s.irqOut rest).receiveIn hw b
  | windowEnd _ _ _ hclose => exact (h.of_delivery ..).closeWindow hclose
  | frame _ hbytes hrun => exact inv_of_runFrame hbytes hrun
  | badFrame => exact State.rejectWindow_inv ..
  | scan => exact h.of_delivery ..
  | reset => exact inv_of_fresh rfl rfl rfl rfl rfl rfl rfl rfl
  | idle => exact h

/-- Settles O38: both runs have the outcome of PARSE_WINDOW, which reads the configuration and the bytes alone. -/
theorem windowsAreIndependent : Obligations.WindowsAreIndependent := by
  intro s s' bytes bytes' hw hw' hcfg hout hin
  obtain ⟨t, hrun, hpair, hst⟩ := run_windowEvents bytes hw
  obtain ⟨t', hrun', hpair', hst'⟩ := run_windowEvents bytes' hw'
  rw [← hcfg, ← hout, ← hin] at hpair' hst'
  obtain ⟨houtput, hcause⟩ := Prod.mk.inj (hpair.trans hpair'.symm)
  exact ⟨t, t', hrun, hrun', houtput, hcause, hst.trans hst'.symm⟩

/-- Settles O47, by the cases of a step. -/
theorem configurationIsNeverWritten : Obligations.ConfigurationIsNeverWritten := by
  intro s t hstep
  cases step_effect hstep with
  | windowStart => rfl
  | outByte => exact State.receiveOut_cfg ..
  | inByte => rfl
  | windowEnd _ _ _ hclose => exact (State.closeWindow_cfg hclose :)
  | frame _ _ hrun =>
    obtain ⟨_, rfl⟩ := State.runFrame_next hrun
    rfl
  | badFrame => rfl
  | scan => rfl
  | reset => rfl
  | idle => rfl

/-- Settles O49: a valid record excludes an open window, and the steps left over either keep it or are named. -/
theorem recordIsHeldUntilNextWindow : Obligations.RecordIsHeldUntilNextWindow := by
  intro s t h hv hstep
  have hclosed : s.win ≠ true := by simp [(h.valid hv).2]
  cases step_effect hstep with
  | windowStart hin he => exact .inr (.inl ⟨_, _, hin, he, rfl⟩)
  | outByte _ _ hw => exact absurd hw hclosed
  | inByte _ _ hw => exact absurd hw hclosed
  | windowEnd _ _ hw => exact absurd hw hclosed
  | frame hin => exact .inr (.inr (.inl ⟨_, _, _, hin⟩))
  | badFrame hin => exact .inr (.inr (.inl ⟨_, _, _, hin⟩))
  | scan => exact .inl ⟨rfl, hv, rfl⟩
  | reset hin => exact .inr (.inr (.inr ⟨_, hin⟩))
  | idle => exact .inl ⟨rfl, hv, rfl⟩

/-- Settles O44: reset is the fresh case of the invariant. -/
theorem resetMeetsInvariant : Obligations.ResetMeetsInvariant := by
  refine ⟨inv_of_fresh rfl rfl rfl rfl rfl rfl rfl rfl, fun _ hst => absurd rfl hst, ?_⟩
  decide

/-- Settles O50: the other three events need an open window. -/
theorem resetValues : Obligations.ResetValues := by
  refine ⟨rfl, rfl, rfl, rfl, rfl, rfl, ⟨_, rfl⟩, fun e t h => ?_⟩
  rcases exec_decodeEvent_next h with ⟨he, _⟩ | ⟨_, _, hw, _⟩ | ⟨_, _, hw, _⟩ | ⟨_, hw, _⟩
  · exact he
  all_goals cases hw

/-- Settles O55, by the constructors of each type. -/
theorem codesOfTheEnumerations : Obligations.CodesOfTheEnumerations := by
  refine ⟨rfl, fun x => ?_, rfl, fun x => ?_, rfl, fun x => ?_⟩
  · cases x <;> decide
  · cases x <;> decide
  · cases x <;> decide

end Sys2Proof.Machine
end

section
/-! SUPPORT. What a scan hands to the decoder, and the step that executes a decoded word. -/

namespace Sys2Proof.Machine

open Sys2Proof

variable {c : Config} {s u : State} {v : BitVec 32} {k n : Nat}

/-! ### The bits a scan has still to visit -/

theorem mem_irqPositions : n ∈ irqPositions c v ↔ irqBitSet c v n = true := by
  have hlt : irqBitSet c v n = true → n < 32 := fun h => by
    rw [irqBitSet, Bool.and_eq_true] at h
    exact BitVec.lt_of_getLsbD h.1
  rw [irqPositions, List.mem_filter, List.mem_range, and_iff_right_of_imp hlt]

theorem getLsbD_irqRemaining (v : BitVec 32) (k n : Nat) :
    (irqRemaining v k).getLsbD n = (decide (k ≤ n) && v.getLsbD n) := by
  rw [irqRemaining, BitVec.getLsbD_shiftLeft, BitVec.getLsbD_ushiftRight]
  by_cases hk : k ≤ n
  · by_cases hn : n < 32
    · simp [hk, hn, Nat.not_lt.mpr hk]
    · simp [hn, BitVec.getLsbD_of_ge v n (Nat.not_lt.mp hn)]
  · simp [hk, Nat.not_le.mp hk]

theorem irqBitSet_irqRemaining : irqBitSet c (irqRemaining v k) n = true ↔ k ≤ n ∧ irqBitSet c v n = true := by
  simp [irqBitSet, getLsbD_irqRemaining, and_assoc]

/-- A scan finds the least position it has not passed (R161: ascending order). -/
theorem lowestIrqBit_irqRemaining (h : lowestIrqBit c (irqRemaining v k) = some n) :
    n ∈ irqPositions c v ∧ k ≤ n ∧ ∀ m ∈ irqPositions c v, k ≤ m → n ≤ m := by
  obtain ⟨_, hset, hlow⟩ := lowestIrqBit_some h
  obtain ⟨hkn, hbit⟩ := irqBitSet_irqRemaining.mp hset
  refine ⟨mem_irqPositions.mpr hbit, hkn, fun m hm hkm => Nat.le_of_not_lt fun hmn => ?_⟩
  have hm' : irqBitSet c (irqRemaining v k) m = true := irqBitSet_irqRemaining.mpr ⟨hkm, mem_irqPositions.mp hm⟩
  exact absurd hm' (Bool.eq_false_iff.mp (hlow m hmn))

theorem lowestIrqBit_of_decode {p : BitVec 32} {i : Instr} (h : decode c (.pay32 p) = .ok i) :
    ∃ n, lowestIrqBit c p = some n := by
  rcases decodeIrq_cases c p with ⟨_, hd⟩ | ⟨n, _, hn, _⟩ | ⟨n, hn, _⟩
  · cases h.symm.trans hd
  · exact ⟨n, hn⟩
  · exact ⟨n, hn⟩

theorem takeIrqScan_of_lowest (rest : List Input) (h : lowestIrqBit s.cfg (irqRemaining v k) = some n) :
    s.takeIrqScan v k rest =
      { s with irqOut := if k = 0 then [] else s.irqOut, input := .irqScan v (n + 1) :: rest } := by
  rw [State.takeIrqScan, h]

/-! ### The step on a decoded word, and on none -/

theorem step_of_decode {w : CodeWord} {i : Instr} (hf : fetch s = some (w, u)) (hd : decode u.cfg w = .ok i) :
    step s = exec i u := by
  simp only [step, hf, hd]

theorem fetch_window {out inb : List Byte} {rest : List Input} (h : s.input = .window out inb :: rest) :
    fetch s = some (.frame out, { s with input := rest, outSeq := out, inSeq := inb }) := by
  simp only [fetch, h, State.loadWindow]

theorem fetch_irqScan {rest : List Input} (h : s.input = .irqScan v k :: rest) :
    fetch s = some (.pay32 (irqRemaining v k), s.takeIrqScan v k rest) := by
  simp only [fetch, h]

theorem step_idle (h : s.input = []) : step s = .next s := by
  simp only [step, fetch, h, withoutWord_nil h]

end Sys2Proof.Machine
end

section
/-! CERTIFICATES. The statement about what a step reads from its inputs (spec/20_memory.md). -/

namespace Sys2Proof.Machine

open Sys2Proof

/-- Settles O32, by the kind of the next input; a scanned value that decodes has a lowest remaining bit. -/
theorem stepRunsTheDecodedInstruction : Obligations.StepRunsTheDecodedInstruction := by
  intro s i rest
  refine ⟨fun e hin hd => ?event, fun out inb hin hd => ?window, fun v k hin hd => ?scan, step_idle⟩
  case event =>
    cases hd
    exact step_event hin
  case window => exact step_of_decode (fetch_window hin) hd
  case scan =>
    obtain ⟨n, hn⟩ := lowestIrqBit_of_decode hd
    obtain ⟨hmem, hkn, hleast⟩ := lowestIrqBit_irqRemaining hn
    refine ⟨n, hmem, hkn, hleast, ?_⟩
    rw [← takeIrqScan_of_lowest rest hn]
    exact step_of_decode (fetch_irqScan hin) hd

end Sys2Proof.Machine
end

section
/-! SUPPORT. The argument word and the frame word by their fields: a word is its fields side by side, a field is read back from its place, and a row's test of a frame word is a test of its marker, its command byte and its argument (spec/30_encoding.md R81, R85, R87, R103). -/

namespace Sys2Proof.Machine

open Sys2Proof

variable {c : Config} {f : BitVec 56}

/-! ### The argument word -/

/-- The fields of an argument word that stands inside a longer word. -/
theorem argumentFields_extractLsb' {n : Nat} (x : BitVec n) (i : Nat) :
    argumentFields (x.extractLsb' i 32) =
      { isWrite := x.getLsbD (i + 31)
        function := x.extractLsb' (i + 28) 3
        blockMode := x.getLsbD (i + 27)
        incrementAddressing := x.getLsbD (i + 26)
        address := x.extractLsb' (i + 9) 17
        count := x.extractLsb' i 9 } := by
  simp only [argumentFields, extractLsb'_extractLsb', BitVec.getLsbD_extractLsb', Nat.add_zero, Nat.reduceAdd,
    Nat.reduceLeDiff, Nat.reduceLT, decide_true, Bool.true_and]

theorem argumentBits_argumentFields (a : BitVec 32) : argumentBits (argumentFields a) = a := by
  simp only [argumentBits, argumentFields, ofBool_getLsbD]
  iterate 5 rw [BitVec.extractLsb'_append_extractLsb'_eq_extractLsb' (by decide)]
  exact BitVec.extractLsb'_eq_self

theorem argumentFields_argumentBits (t : Argument) : argumentFields (argumentBits t) = t := by
  simp only [argumentFields, argumentBits, BitVec.getLsbD_append, BitVec.getLsbD_ofBool,
    BitVec.extractLsb'_append_eq_of_le, BitVec.extractLsb'_append_eq_right, Nat.reduceLeDiff, Nat.reduceLT,
    Nat.reduceSub, if_true, if_false, decide_true, Bool.true_and]

theorem argumentFields_inj {a b : BitVec 32} : argumentFields a = argumentFields b ↔ a = b :=
  (Function.LeftInverse.injective argumentBits_argumentFields).eq_iff

theorem argumentFields_and (a m : BitVec 32) :
    argumentFields (a &&& m) =
      { isWrite := (argumentFields a).isWrite && (argumentFields m).isWrite
        function := (argumentFields a).function &&& (argumentFields m).function
        blockMode := (argumentFields a).blockMode && (argumentFields m).blockMode
        incrementAddressing := (argumentFields a).incrementAddressing && (argumentFields m).incrementAddressing
        address := (argumentFields a).address &&& (argumentFields m).address
        count := (argumentFields a).count &&& (argumentFields m).count } := by
  simp only [argumentFields, BitVec.extractLsb'_and, BitVec.getLsbD_and]

/-! ### The argument word of four bytes -/

theorem argumentWord_eq_append (b0 b1 b2 b3 : Byte) : argumentWord ⟨b0, b1, b2, b3⟩ = b0 ++ b1 ++ b2 ++ b3 := by
  rw [← BitVec.setWidth_eq (_ ++ b3)]
  simp only [argumentWord, BitVec.setWidth_append_eq_shiftLeft_setWidth_or, BitVec.shiftLeft_or_distrib,
    ← BitVec.shiftLeft_add]

/-- The address reaches over three of the bytes, the count over two (R87). -/
theorem argumentFields_append (b2 b3 b4 b5 : Byte) :
    argumentFields (b2 ++ b3 ++ b4 ++ b5) =
      { isWrite := b2.getLsbD 7
        function := b2.extractLsb' 4 3
        blockMode := b2.getLsbD 3
        incrementAddressing := b2.getLsbD 2
        address := b2.extractLsb' 0 2 ++ b3 ++ b4.extractLsb' 1 7
        count := b4.extractLsb' 0 1 ++ b5 } := by
  have haddr (x : BitVec 32) :
      x.extractLsb' 9 17 = x.extractLsb' 24 2 ++ x.extractLsb' 16 8 ++ x.extractLsb' 9 7 := by
    iterate 2 rw [BitVec.extractLsb'_append_extractLsb'_eq_extractLsb' (by decide)]
  have hcount (x : BitVec 32) : x.extractLsb' 0 9 = x.extractLsb' 8 1 ++ x.extractLsb' 0 8 := by
    rw [BitVec.extractLsb'_append_extractLsb'_eq_extractLsb' (by decide)]
  simp only [argumentFields, haddr, hcount, BitVec.getLsbD_append, BitVec.extractLsb'_append_eq_of_le,
    BitVec.extractLsb'_append_eq_of_add_le, BitVec.extractLsb'_eq_self, Nat.reduceLeDiff, Nat.reduceLT, Nat.reduceSub,
    if_false]

/-- Reading a field is a shift and a mask. -/
theorem setWidth_extractLsb'_eq_ushiftRight_and {w : Nat} (x : BitVec w) (i n : Nat) :
    (x.extractLsb' i n).setWidth w = (x >>> i) &&& (BitVec.allOnes n).setWidth w := by
  ext j hj
  simp [BitVec.getElem_ushiftRight, Bool.and_comm]

/-! ### What a row's argument bits test -/

theorem argumentFields_argDirFn (w : Bool) (fn : BitVec 3) :
    argumentFields (argDirFn w fn) = ⟨w, fn, false, false, 0#17, 0#9⟩ := by
  simp only [argumentFields, argDirFn, BitVec.getLsbD_append, BitVec.getLsbD_ofBool, BitVec.getLsbD_zero,
    BitVec.extractLsb'_append_eq_of_le, BitVec.extractLsb'_append_eq_of_add_le, BitVec.extractLsb'_eq_self,
    BitVec.extractLsb'_zero, Nat.reduceLeDiff, Nat.reduceLT, Nat.reduceSub, if_true, if_false, decide_true,
    Bool.true_and]

theorem argumentFields_argDirAddr (w : Bool) (addr : BitVec 17) :
    argumentFields (argDirAddr w addr) = ⟨w, 0#3, false, false, addr, 0#9⟩ := by
  simp only [argumentFields, argDirAddr, BitVec.getLsbD_append, BitVec.getLsbD_ofBool, BitVec.getLsbD_zero,
    BitVec.extractLsb'_append_eq_of_le, BitVec.extractLsb'_append_eq_of_add_le, BitVec.extractLsb'_eq_self,
    BitVec.extractLsb'_zero, Nat.reduceLeDiff, Nat.reduceLT, Nat.reduceSub, if_true, if_false, decide_true,
    Bool.true_and]

theorem and_argDirFn_eq_iff {a : BitVec 32} {w : Bool} {fn : BitVec 3} :
    a &&& argDirFn true 7#3 = argDirFn w fn ↔ (argumentFields a).isWrite = w ∧ (argumentFields a).function = fn := by
  rw [← argumentFields_inj, argumentFields_and, argumentFields_argDirFn, argumentFields_argDirFn,
    show 7#3 = BitVec.allOnes 3 from rfl]
  simp only [Argument.mk.injEq, BitVec.and_allOnes, BitVec.and_zero, Bool.and_true, Bool.and_false, and_true]

theorem and_argDir_eq_iff {a : BitVec 32} {w : Bool} :
    a &&& argDirFn true 0#3 = argDirFn w 0#3 ↔ (argumentFields a).isWrite = w := by
  rw [← argumentFields_inj, argumentFields_and, argumentFields_argDirFn, argumentFields_argDirFn]
  simp only [Argument.mk.injEq, BitVec.and_zero, Bool.and_true, Bool.and_false, and_true]

theorem and_argDirAddr_eq_iff {a : BitVec 32} {w : Bool} {addr : BitVec 17} :
    a &&& argDirAddr true 0x1FFFF#17 = argDirAddr w addr ↔
      (argumentFields a).isWrite = w ∧ (argumentFields a).address = addr := by
  rw [← argumentFields_inj, argumentFields_and, argumentFields_argDirAddr, argumentFields_argDirAddr,
    show 0x1FFFF#17 = BitVec.allOnes 17 from rfl]
  simp only [Argument.mk.injEq, BitVec.and_allOnes, BitVec.and_zero, Bool.and_true, Bool.and_false, true_and, and_true]

/-! ### The frame word -/

theorem frameArgument_eq_argumentFields (f : BitVec 56) : frameArgument f = argumentFields (f.extractLsb' 8 32) :=
  (argumentFields_extractLsb' f 8).symm

theorem frameLayout_dir (m d : Byte) (a : BitVec 32) (k : Byte) : frameDir (m ++ d ++ a ++ k) = d := by
  rw [frameDir]
  iterate 2 rw [BitVec.extractLsb'_append_eq_of_le (by decide)]
  exact BitVec.extractLsb'_append_eq_right

theorem frameLayout_crc (m d : Byte) (a : BitVec 32) (k : Byte) : frameCrc (m ++ d ++ a ++ k) = k :=
  BitVec.extractLsb'_append_eq_right

theorem frameLayout_frameArgument (m d : Byte) (t : Argument) (k : Byte) :
    frameArgument (m ++ d ++ argumentBits t ++ k) = t := by
  rw [frameArgument_eq_argumentFields, frameLayout_argument, argumentFields_argumentBits]

/-- A frame word is its marker, its command byte, its argument and its CRC byte (R81). -/
theorem frameLayout_eq (f : BitVec 56) :
    f.extractLsb' 48 8 ++ frameDir f ++ f.extractLsb' 8 32 ++ frameCrc f = f := by
  rw [frameDir, frameCrc]
  iterate 3 rw [BitVec.extractLsb'_append_extractLsb'_eq_extractLsb' (by decide)]
  exact BitVec.extractLsb'_eq_self

theorem frameLayout_inj {m d k m' d' k' : Byte} {a a' : BitVec 32} :
    m ++ d ++ a ++ k = m' ++ d' ++ a' ++ k' ↔ m = m' ∧ d = d' ∧ a = a' ∧ k = k' := by
  refine ⟨fun h => ⟨?marker, ?dir, ?argument, ?crc⟩, by rintro ⟨rfl, rfl, rfl, rfl⟩; rfl⟩
  case marker => simpa only [frameLayout_marker] using congrArg (BitVec.extractLsb' 48 8) h
  case dir => simpa only [frameLayout_dir] using congrArg frameDir h
  case argument => simpa only [frameLayout_argument] using congrArg (BitVec.extractLsb' 8 32) h
  case crc => simpa only [frameLayout_crc] using congrArg frameCrc h

theorem packFrame_eq_layout (c : Config) (dir : Byte) (t : Argument) (crc : Byte) :
    packFrame c dir t.isWrite t.function t.blockMode t.incrementAddressing t.address t.count crc =
      c.startMarker ++ dir ++ argumentBits t ++ crc := by
  rw [← BitVec.setWidth_eq (packFrame ..), ← BitVec.setWidth_eq (_ ++ crc)]
  simp only [packFrame, argumentBits, BitVec.setWidth_append_eq_shiftLeft_setWidth_or, BitVec.shiftLeft_or_distrib,
    ← BitVec.shiftLeft_add, BitVec.or_assoc]

/-- The first two bytes of a frame word are its bits 55 to 40 (R81). -/
theorem marker_dir_iff {m d : Byte} :
    f.extractLsb' 40 16 = m ++ d ↔ f.extractLsb' 48 8 = m ∧ frameDir f = d := by
  have hsplit : f.extractLsb' 48 8 ++ frameDir f = f.extractLsb' 40 16 :=
    BitVec.extractLsb'_append_extractLsb'_eq_extractLsb' (by decide)
  rw [← hsplit]
  refine ⟨fun h => ⟨?marker, ?dir⟩, by rintro ⟨rfl, rfl⟩; rfl⟩
  case marker => simpa only [BitVec.extractLsb'_append_eq_left] using congrArg (BitVec.extractLsb' 8 8) h
  case dir => simpa only [BitVec.extractLsb'_append_eq_right] using congrArg (BitVec.extractLsb' 0 8) h

/-! ### The frame word of a byte sequence -/

theorem frameWord_frameBytes (f : BitVec 56) : frameWord (frameBytes f) = some f := by
  rw [frameBytes, frameWord, Option.some_inj]
  iterate 6 rw [BitVec.extractLsb'_append_extractLsb'_eq_extractLsb' (by decide)]
  exact BitVec.extractLsb'_eq_self

theorem frameWord_eq_none {out : List Byte} (h : out.length < 7) : frameWord out = none := by
  match out, h with
  | [], _ | [_], _ | [_, _], _ | [_, _, _], _ | [_, _, _, _], _ | [_, _, _, _, _], _ | [_, _, _, _, _, _], _ => rfl

/-- Of seven or more bytes the first two are the frame word's marker and command byte. -/
theorem frameWord_cons_cons {m d : Byte} {rest : List Byte} (h : 7 ≤ (m :: d :: rest).length) :
    ∃ f, frameWord (m :: d :: rest) = some f ∧ f.extractLsb' 48 8 = m ∧ frameDir f = d := by
  match rest, h with
  | b2 :: b3 :: b4 :: b5 :: b6 :: rest, _ =>
    have hbytes := frameWord_some (out := m :: d :: b2 :: b3 :: b4 :: b5 :: b6 :: rest) rfl
    obtain ⟨hm, hd, _⟩ := by simpa only [frameBytes, List.take_succ_cons, List.cons.injEq] using hbytes
    exact ⟨_, rfl, hm, hd⟩

theorem eq_of_frameWord_toList {v : Vector Byte 7} (h : frameWord v.toList = some f) :
    v = #v[f.extractLsb' 48 8, f.extractLsb' 40 8, f.extractLsb' 32 8, f.extractLsb' 24 8, f.extractLsb' 16 8,
      f.extractLsb' 8 8, f.extractLsb' 0 8] := by
  rw [← Vector.toList_inj]
  exact ((frameWord_some h).trans (List.take_of_length_le (by simp))).symm

end Sys2Proof.Machine
end

section
/-! SUPPORT. The decode map read as one decision, and the encoder as its inverse: which frame words are recognised, the instruction of each, and the rows of the interrupt bit table (spec/30_encoding.md R95, R102 to R104). -/

namespace Sys2Proof.Machine

open Sys2Proof

variable {c : Config} {f : BitVec 56} {i : Instr}

/-! ### The first row that matches -/

/-- The instruction that the first matching row builds. -/
def firstBuilt (rows : List FrameRow) (f : BitVec 56) : Option Instr :=
  (rows.find? fun r => r.hits f).map fun r => r.build f

theorem firstBuilt_cons (r : FrameRow) (rows : List FrameRow) (f : BitVec 56) :
    firstBuilt (r :: rows) f = if f &&& r.mask = r.pattern then some (r.build f) else firstBuilt rows f := by
  by_cases h : f &&& r.mask = r.pattern
  · rw [if_pos h, firstBuilt, List.find?_cons_of_pos (by simpa [FrameRow.hits] using h), Option.map_some]
  · rw [if_neg h, firstBuilt, List.find?_cons_of_neg (by simpa [FrameRow.hits] using h), firstBuilt]

theorem firstBuilt_append {before after : List FrameRow} {r : FrameRow} (h : f &&& r.mask = r.pattern)
    (hbefore : ∀ q ∈ before, f &&& q.mask ≠ q.pattern) : firstBuilt (before ++ r :: after) f = some (r.build f) := by
  induction before with
  | nil => rw [List.nil_append, firstBuilt_cons, if_pos h]
  | cons q before ih =>
    obtain ⟨hq, hrest⟩ := List.forall_mem_cons.mp hbefore
    rw [List.cons_append, firstBuilt_cons, if_neg hq, ih hrest]

theorem decodeFrame_of_firstBuilt (h : firstBuilt (frameRows c) f = some i) : decodeFrame c f = .ok i := by
  obtain ⟨r, hr, rfl⟩ := Option.map_eq_some_iff.mp h
  rw [decodeFrame, hr]

/-- A row matches a frame word that passes its three tests: marker, command byte and argument (R103). -/
theorem rowHits_iff {m p : BitVec 32} : f &&& rowMask c m = rowMatch c p ↔
    f.extractLsb' 48 8 = c.startMarker ∧ frameDir f &&& c.cmdMask = c.cmdMatch ∧ f.extractLsb' 8 32 &&& m = p := by
  have hmasked : f &&& rowMask c m =
      f.extractLsb' 48 8 ++ (frameDir f &&& c.cmdMask) ++ (f.extractLsb' 8 32 &&& m) ++ 0#8 := by
    conv_lhs => rw [← frameLayout_eq f, rowMask]
    iterate 3 rw [BitVec.and_append]
    rw [show 0xFF#8 = BitVec.allOnes 8 from rfl, BitVec.and_allOnes, BitVec.and_zero]
  rw [hmasked, rowMatch, frameLayout_inj, and_iff_left rfl]

/-! ### The decision -/

/-- The instruction of a recognised frame: function 0, then the two interrupt addresses in the order of their rows
for the direction, then function 2, then the rest (R102). -/
def frameInstr (c : Config) (dir : Byte) (t : Argument) (crc : Byte) : Instr :=
  if t.function = 0#3 then
    if t.isWrite then .cardWr dir t.blockMode t.incrementAddressing t.address t.count crc
    else .cardRd dir t.blockMode t.incrementAddressing t.address t.count crc
  else if t.isWrite then
    if t.address = c.irqClearAddr then .irqClr dir t.function t.blockMode t.incrementAddressing t.count crc
    else if t.address = c.irqStatusAddr then .cmd53WrStatus dir t.function t.blockMode t.incrementAddressing t.count crc
    else if t.function = 2#3 then .bulkWr dir t.blockMode t.incrementAddressing t.address t.count crc
    else .cmd53Wr dir t.function t.blockMode t.incrementAddressing t.address t.count crc
  else
    if t.address = c.irqStatusAddr then .irqRd dir t.function t.blockMode t.incrementAddressing t.count crc
    else if t.address = c.irqClearAddr then .cmd53RdClear dir t.function t.blockMode t.incrementAddressing t.count crc
    else if t.function = 2#3 then .bulkRd dir t.blockMode t.incrementAddressing t.address t.count crc
    else .cmd53Rd dir t.function t.blockMode t.incrementAddressing t.address t.count crc

/-- Once the direction is known, the rows that test it against the other one drop out and the rest is the decision. -/
theorem decodeFrame_of_recognized (hm : f.extractLsb' 48 8 = c.startMarker)
    (hd : frameDir f &&& c.cmdMask = c.cmdMatch) :
    decodeFrame c f = .ok (frameInstr c (frameDir f) (frameArgument f) (frameCrc f)) := by
  have hrow : ∀ m p, f &&& rowMask c m = rowMatch c p ↔ f.extractLsb' 8 32 &&& m = p := fun m p => by
    rw [rowHits_iff, and_iff_right hm, and_iff_right hd]
  apply decodeFrame_of_firstBuilt
  simp only [frameRows, firstBuilt_cons, hrow, and_argDirFn_eq_iff, and_argDirAddr_eq_iff, and_argDir_eq_iff,
    ← frameArgument_eq_argumentFields]
  cases hw : (frameArgument f).isWrite
  all_goals
    simp only [frameInstr, hw, true_and, false_and, if_true, if_false, reduceCtorEq, apply_ite some]
    rfl

theorem find?_frameRows_eq_none
    (h : ¬ (f.extractLsb' 48 8 = c.startMarker ∧ frameDir f &&& c.cmdMask = c.cmdMatch)) :
    (frameRows c).find? (fun r => r.hits f) = none := by
  refine List.find?_eq_none.mpr fun r hr hits => h ?_
  obtain ⟨m, p, hmask, hpattern⟩ := mem_frameRows_layout hr
  rw [FrameRow.hits, beq_iff_eq, hmask, hpattern, rowHits_iff] at hits
  obtain ⟨hm, hd, _⟩ := hits
  exact ⟨hm, hd⟩

theorem decodeFrame_of_badMarker (hm : f.extractLsb' 48 8 ≠ c.startMarker) : decodeFrame c f = .error .badMarker := by
  rw [decodeFrame, find?_frameRows_eq_none fun h => hm h.1]
  simp [hm]

theorem decodeFrame_of_badCommand (hm : f.extractLsb' 48 8 = c.startMarker)
    (hd : frameDir f &&& c.cmdMask ≠ c.cmdMatch) : decodeFrame c f = .error .badCommand := by
  rw [decodeFrame, find?_frameRows_eq_none fun h => hd h.2]
  simp [hm]

theorem decodeFrame_eq_ok_iff : decodeFrame c f = .ok i ↔
    f.extractLsb' 48 8 = c.startMarker ∧ frameDir f &&& c.cmdMask = c.cmdMatch
      ∧ frameInstr c (frameDir f) (frameArgument f) (frameCrc f) = i := by
  by_cases hm : f.extractLsb' 48 8 = c.startMarker
  · by_cases hd : frameDir f &&& c.cmdMask = c.cmdMatch
    · simp [decodeFrame_of_recognized hm hd, hm, hd]
    · simp [decodeFrame_of_badCommand hm hd, hd]
  · simp [decodeFrame_of_badMarker hm, hm]

/-- Under the default configuration a recognised frame begins `FF 75` (R9, R81). -/
theorem recognized_default_iff : f.extractLsb' 40 16 = 0xFF75#16 ↔
    f.extractLsb' 48 8 = Config.default.startMarker
      ∧ frameDir f &&& Config.default.cmdMask = Config.default.cmdMatch := by
  rw [show 0xFF75#16 = 0xFF#8 ++ 0x75#8 from rfl, marker_dir_iff,
    show Config.default.cmdMask = BitVec.allOnes 8 from rfl, BitVec.and_allOnes]
  rfl

/-! ### The instructions of recognised frames -/

theorem wellFormed_frameInstr {dir : Byte} (t : Argument) (crc : Byte) (hd : dirOk c dir = true) :
    WellFormed c (frameInstr c dir t crc) = true := by
  rw [frameInstr]
  split_ifs <;> simp [WellFormed, plainAddr, *]

theorem instrKind_frameInstr (c : Config) (dir : Byte) (t : Argument) (crc : Byte) :
    instrKind (frameInstr c dir t crc) = some (txnKind c t.function t.address t.isWrite) := by
  rw [frameInstr]
  split_ifs <;> simp_all [instrKind, txnKind, classify, irqKind]

theorem encode_frameInstr (c : Config) (dir : Byte) (t : Argument) (crc : Byte) :
    encode c (frameInstr c dir t crc) = .frame (frameBytes (c.startMarker ++ dir ++ argumentBits t ++ crc)) := by
  rw [← packFrame_eq_layout, frameInstr]
  split_ifs <;> simp only [encode, encodeFrame, *]

/-- Every well-formed frame instruction is a recognised frame's, once the two interrupt addresses differ: with equal
ones rows 5 and 6 are never reached. -/
theorem exists_frameInstr (hne : c.irqStatusAddr ≠ c.irqClearAddr) (hwf : WellFormed c i = true)
    (hi : i.format = .frame56) : ∃ dir t crc, dirOk c dir = true ∧ i = frameInstr c dir t crc := by
  cases i
  case cardRd dir bm inc addr cnt crc => exact ⟨dir, ⟨false, 0#3, bm, inc, addr, cnt⟩, crc, hwf, rfl⟩
  case cardWr dir bm inc addr cnt crc => exact ⟨dir, ⟨true, 0#3, bm, inc, addr, cnt⟩, crc, hwf, rfl⟩
  all_goals simp only [WellFormed, plainAddr, Bool.and_eq_true, bne_iff_ne, and_assoc] at hwf
  case irqRd dir fn bm inc cnt crc =>
    obtain ⟨hd, hfn⟩ := hwf
    exact ⟨dir, ⟨false, fn, bm, inc, c.irqStatusAddr, cnt⟩, crc, hd, by simp [frameInstr, hfn]⟩
  case irqClr dir fn bm inc cnt crc =>
    obtain ⟨hd, hfn⟩ := hwf
    exact ⟨dir, ⟨true, fn, bm, inc, c.irqClearAddr, cnt⟩, crc, hd, by simp [frameInstr, hfn]⟩
  case cmd53WrStatus dir fn bm inc cnt crc =>
    obtain ⟨hd, hfn⟩ := hwf
    exact ⟨dir, ⟨true, fn, bm, inc, c.irqStatusAddr, cnt⟩, crc, hd, by simp [frameInstr, hfn, hne]⟩
  case cmd53RdClear dir fn bm inc cnt crc =>
    obtain ⟨hd, hfn⟩ := hwf
    exact ⟨dir, ⟨false, fn, bm, inc, c.irqClearAddr, cnt⟩, crc, hd, by simp [frameInstr, hfn, hne.symm]⟩
  case bulkRd dir bm inc addr cnt crc =>
    obtain ⟨hd, hstatus, hclear⟩ := hwf
    exact ⟨dir, ⟨false, 2#3, bm, inc, addr, cnt⟩, crc, hd, by simp [frameInstr, hstatus, hclear]⟩
  case bulkWr dir bm inc addr cnt crc =>
    obtain ⟨hd, hstatus, hclear⟩ := hwf
    exact ⟨dir, ⟨true, 2#3, bm, inc, addr, cnt⟩, crc, hd, by simp [frameInstr, hstatus, hclear]⟩
  case cmd53Rd dir fn bm inc addr cnt crc =>
    obtain ⟨hd, hfn, hfn2, hstatus, hclear⟩ := hwf
    exact ⟨dir, ⟨false, fn, bm, inc, addr, cnt⟩, crc, hd, by simp [frameInstr, hfn, hfn2, hstatus, hclear]⟩
  case cmd53Wr dir fn bm inc addr cnt crc =>
    obtain ⟨hd, hfn, hfn2, hstatus, hclear⟩ := hwf
    exact ⟨dir, ⟨true, fn, bm, inc, addr, cnt⟩, crc, hd, by simp [frameInstr, hfn, hfn2, hstatus, hclear]⟩
  all_goals cases hi

/-! ### The rows of the interrupt bit table -/

theorem mem_irqRows_of_format (hi : i.format = .pay32) : ∃ n, (n, i) ∈ irqRows := by
  have hmem : i ∈ irqRows.map Prod.snd := by cases i <;> cases hi <;> decide
  obtain ⟨⟨n, _⟩, hn, rfl⟩ := List.mem_map.mp hmem
  exact ⟨n, hn⟩

theorem lookup_irqRow {n : Nat} (h : (n, i) ∈ irqRows) : n < 32 ∧ irqRows.lookup n = some i := by
  have hall : ∀ p ∈ irqRows, p.1 < 32 ∧ irqRows.lookup p.1 = some p.2 := by decide
  exact hall _ h

theorem encode_irqRow {n : Nat} (h : (n, i) ∈ irqRows) (c : Config) :
    encode c i = .pay32 (BitVec.twoPow 32 n) := by
  have hall : ∀ p ∈ irqRows, encode c p.2 = .pay32 (BitVec.twoPow 32 p.1) := by
    rw [← List.forall_iff_forall_mem]
    and_intros <;> rfl
  exact hall _ h

theorem wellFormed_irqRow {n : Nat} (h : (n, i) ∈ irqRows) (c : Config) :
    WellFormed c i = c.irqDefinedMask.getLsbD n := by
  have hall : ∀ p ∈ irqRows, WellFormed c p.2 = c.irqDefinedMask.getLsbD p.1 := by
    rw [← List.forall_iff_forall_mem]
    and_intros <;> rfl
  exact hall _ h

theorem lowestIrqBit_twoPow {n : Nat} (hn : n < 32) (hdef : c.irqDefinedMask.getLsbD n = true) :
    lowestIrqBit c (BitVec.twoPow 32 n) = some n := by
  refine List.find?_range_eq_some.mpr ⟨?set, List.mem_range.mpr hn, fun m hm => ?lower⟩
  case set => simp [irqBitSet, hdef, hn]
  case lower => simp [irqBitSet, hm.ne']

/-! ### Decoding what the encoder writes, format by format -/

theorem decode_encode_frameInstr {dir : Byte} (t : Argument) (crc : Byte) (hd : dirOk c dir = true) :
    decode c (encode c (frameInstr c dir t crc)) = .ok (frameInstr c dir t crc) := by
  have hcommand : frameDir (c.startMarker ++ dir ++ argumentBits t ++ crc) &&& c.cmdMask = c.cmdMatch := by
    rw [frameLayout_dir]
    exact beq_iff_eq.mp hd
  simp only [encode_frameInstr, decode, frameWord_frameBytes]
  rw [decodeFrame_of_recognized (frameLayout_marker ..) hcommand, frameLayout_dir, frameLayout_frameArgument,
    frameLayout_crc]

theorem decode_encode_event (hi : i.format = .event10) : decode c (encode c i) = .ok i := by
  cases i
  case windowStart => rfl
  case outByte b => simp [encode, decode, decodeEvent_packEvent]
  case inByte b => simp [encode, decode, decodeEvent_packEvent]
  case windowEnd => rfl
  all_goals cases hi

theorem decode_encode_irqRow {n : Nat} (h : (n, i) ∈ irqRows) (hwf : WellFormed c i = true) :
    decode c (encode c i) = .ok i := by
  obtain ⟨hn, hrow⟩ := lookup_irqRow h
  have hlow := lowestIrqBit_twoPow hn (wellFormed_irqRow h c ▸ hwf)
  simp only [encode_irqRow h, decode, decodeIrq, hlow, hrow]

end Sys2Proof.Machine
end

section
/-! SUPPORT. The kind of a transaction, the payload of an inbound sequence and the places of the record word (spec/30_encoding.md R100, R101; spec/41_classifier.md R141, R144, R146; spec/20_memory.md R52). -/

namespace Sys2Proof.Machine

open Sys2Proof

variable {c : Config} {fn : BitVec 3} {addr : BitVec 17} {w : Bool}

/-! ### Category, interrupt recognition and kind -/

theorem irqKind_eq_irqRead_iff : irqKind c fn addr w = .irqRead ↔ fn ≠ 0#3 ∧ addr = c.irqStatusAddr ∧ w = false := by
  unfold irqKind
  split_ifs <;> simp_all

theorem irqKind_eq_irqClear_iff : irqKind c fn addr w = .irqClear ↔ fn ≠ 0#3 ∧ addr = c.irqClearAddr ∧ w = true := by
  unfold irqKind
  split_ifs <;> simp_all

theorem classify_of_irqAddr (hfn : fn ≠ 0#3) (haddr : addr = c.irqStatusAddr ∨ addr = c.irqClearAddr) :
    classify c fn addr = .registerControl := by
  rw [classify, if_neg hfn, if_pos haddr]

theorem classify_of_irqRead (h : irqKind c fn addr w = .irqRead) : classify c fn addr = .registerControl := by
  obtain ⟨hfn, haddr, _⟩ := irqKind_eq_irqRead_iff.mp h
  exact classify_of_irqAddr hfn (.inl haddr)

theorem classify_of_irqClear (h : irqKind c fn addr w = .irqClear) : classify c fn addr = .registerControl := by
  obtain ⟨hfn, haddr, _⟩ := irqKind_eq_irqClear_iff.mp h
  exact classify_of_irqAddr hfn (.inr haddr)

theorem txnKind_of_irqRead (h : irqKind c fn addr w = .irqRead) : txnKind c fn addr w = .irqRd := by
  simp [txnKind, classify_of_irqRead h, h]

theorem txnKind_of_irqClear (h : irqKind c fn addr w = .irqClear) : txnKind c fn addr w = .irqClr := by
  simp [txnKind, classify_of_irqClear h, h]

/-- Where no interrupt register is recognised, category and direction make the kind (R146). -/
theorem txnKind_of_irqNone (h : irqKind c fn addr w = .none) : txnKind c fn addr w =
    if classify c fn addr = .cardControl then (if w then .cardWr else .cardRd)
    else if classify c fn addr = .bulkData then (if w then .bulkWr else .bulkRd)
    else (if w then .cmd53Wr else .cmd53Rd) := by
  simp [txnKind, h]

theorem category_txnKind : (txnKind c fn addr w).category = classify c fn addr := by
  cases h : irqKind c fn addr w with
  | irqRead => rw [txnKind_of_irqRead h, classify_of_irqRead h]; rfl
  | irqClear => rw [txnKind_of_irqClear h, classify_of_irqClear h]; rfl
  | none => rw [txnKind_of_irqNone h]; cases classify c fn addr <;> cases w <;> rfl

theorem irq_txnKind : (txnKind c fn addr w).irq = irqKind c fn addr w := by
  cases h : irqKind c fn addr w with
  | irqRead => rw [txnKind_of_irqRead h]; rfl
  | irqClear => rw [txnKind_of_irqClear h]; rfl
  | none => rw [txnKind_of_irqNone h]; cases classify c fn addr <;> cases w <;> rfl

theorem isWrite_txnKind : (txnKind c fn addr w).isWrite = w := by
  cases h : irqKind c fn addr w with
  | irqRead =>
    obtain ⟨_, _, rfl⟩ := irqKind_eq_irqRead_iff.mp h
    rw [txnKind_of_irqRead h]; rfl
  | irqClear =>
    obtain ⟨_, _, rfl⟩ := irqKind_eq_irqClear_iff.mp h
    rw [txnKind_of_irqClear h]; rfl
  | none => rw [txnKind_of_irqNone h]; cases classify c fn addr <;> cases w <;> rfl

theorem code_getLsbD_zero (k : Kind) : k.code.getLsbD 0 = k.isWrite := by cases k <;> rfl

/-! ### The payload of an inbound sequence -/

/-- The payload reads the four bytes from `PAYLOAD_OFFSET` on, and is absent when fewer are there (R52). -/
theorem payloadOf_eq (c : Config) (inSeq : List Byte) :
    payloadOf c inSeq = (bytes4? ((inSeq.drop c.payloadOffset.val).take 4)).map decodePayload := by
  unfold payloadOf memRead
  split
  case isTrue => rfl
  case isFalse h =>
    have hshort : ((inSeq.drop c.payloadOffset.val).take 4).length < 4 := by
      simp only [payloadLen, List.length_take, List.length_drop] at *
      omega
    match (inSeq.drop c.payloadOffset.val).take 4, hshort with
    | [], _ | [_], _ | [_, _], _ | [_, _, _], _ => rfl

/-! ### The record word (R100) -/

variable {absent : BitVec 64} {r : Transaction}

theorem recWord_eq_append (absent : BitVec 64) (r : Transaction) :
    ∃ high : BitVec 64, recWord absent r = high ++ recLow r
      ∧ (∀ p, r.payload = some p → high = p.activeMask ++ p.decodedPayload) ∧ (r.payload = none → high = absent) := by
  refine ⟨_, rfl, fun p h => ?_, fun h => ?_⟩ <;> rw [h]

theorem extractLsb'_recWord {i n : Nat} (h : i + n ≤ 38) :
    (recWord absent r).extractLsb' i n = (recLow r).extractLsb' i n := by
  obtain ⟨high, hword, _⟩ := recWord_eq_append absent r
  rw [hword]
  exact BitVec.extractLsb'_append_eq_of_add_le h

theorem recWord_argument : (recWord absent r).extractLsb' 0 32 = argumentBits r.argument := by
  rw [extractLsb'_recWord (by decide), recLow, packArgument_eq_argumentBits]
  exact BitVec.extractLsb'_append_eq_right

theorem recWord_category : (recWord absent r).extractLsb' 32 2 = r.category.code := by
  rw [extractLsb'_recWord (by decide), recLow, BitVec.extractLsb'_append_eq_of_le (by decide)]
  exact BitVec.extractLsb'_append_eq_right

theorem recWord_kind : (recWord absent r).extractLsb' 34 3 = r.kind.code := by
  rw [extractLsb'_recWord (by decide), recLow]
  iterate 2 rw [BitVec.extractLsb'_append_eq_of_le (by decide)]
  exact BitVec.extractLsb'_append_eq_right

theorem recWord_present : (recWord absent r).getLsbD 37 = r.payload.isSome := by
  rw [← BitVec.ofBool_eq_iff_eq, ofBool_getLsbD, extractLsb'_recWord (by decide), recLow]
  iterate 3 rw [BitVec.extractLsb'_append_eq_of_le (by decide)]
  exact BitVec.extractLsb'_eq_self

/-- The argument's fields stand in the record word where they stand in the argument (R85, R100). -/
theorem recWord_argumentFields :
    r.argument =
      { isWrite := (recWord absent r).getLsbD 31
        function := (recWord absent r).extractLsb' 28 3
        blockMode := (recWord absent r).getLsbD 27
        incrementAddressing := (recWord absent r).getLsbD 26
        address := (recWord absent r).extractLsb' 9 17
        count := (recWord absent r).extractLsb' 0 9 } := by
  conv_lhs => rw [← argumentFields_argumentBits r.argument, ← recWord_argument (absent := absent)]
  exact argumentFields_extractLsb' (recWord absent r) 0

theorem recWord_absent (h : r.payload = none) : (recWord absent r).extractLsb' 38 64 = absent := by
  obtain ⟨high, hword, _, habsent⟩ := recWord_eq_append absent r
  rw [hword, ← habsent h]
  exact BitVec.extractLsb'_append_eq_left

theorem recWord_payload {p : IrqPayload} (h : r.payload = some p) :
    (recWord absent r).extractLsb' 38 64 = p.activeMask ++ p.decodedPayload := by
  obtain ⟨high, hword, hpresent, _⟩ := recWord_eq_append absent r
  rw [hword, ← hpresent p h]
  exact BitVec.extractLsb'_append_eq_left

end Sys2Proof.Machine
end

section
/-! CERTIFICATES. The statements about the encodings (spec/30_encoding.md). -/

namespace Sys2Proof.Machine

open Sys2Proof

/-- Settles O1, by the format of the instruction: a frame is decided as it was built, an event has its code, and the
one bit of a row of the interrupt bit table is the lowest. -/
theorem decodeOfEncode : Obligations.DecodeOfEncode := by
  intro c i hne hwf
  cases hi : i.format with
  | frame56 =>
    obtain ⟨dir, t, crc, hd, rfl⟩ := exists_frameInstr hne hwf hi
    exact decode_encode_frameInstr t crc hd
  | event10 => exact decode_encode_event hi
  | pay32 =>
    obtain ⟨n, hn⟩ := mem_irqRows_of_format hi
    exact decode_encode_irqRow hn hwf

/-- Settles O2: an accepted frame word is laid out from the fields its instruction carries. -/
theorem encodeOfDecodedFrame : Obligations.EncodeOfDecodedFrame := by
  intro c out i h
  cases hf : frameWord out with
  | none => simp [decode, hf] at h
  | some f =>
    simp only [decode, hf] at h
    obtain ⟨hm, hd, rfl⟩ := decodeFrame_eq_ok_iff.mp h
    refine ⟨wellFormed_frameInstr _ _ (beq_iff_eq.mpr hd), ?_⟩
    rw [encode_frameInstr, argumentBits_frameArgument, ← hm, frameLayout_eq, frameWord_some hf]

/-- Settles O3: every row tests the marker and the command byte. -/
theorem frameRefusalsAreNamed : Obligations.FrameRefusalsAreNamed := by
  refine fun c out => ⟨fun hshort => ?short, fun m d rest hout hlen => ?whole⟩
  case short => simp only [decode, frameWord_eq_none hshort]
  case whole =>
    subst hout
    obtain ⟨f, hf, rfl, rfl⟩ := frameWord_cons_cons hlen
    simp only [decode, hf]
    exact ⟨decodeFrame_of_badMarker, decodeFrame_of_badCommand, fun hm hd => ⟨_, decodeFrame_of_recognized hm hd⟩⟩

/-- Settles O4: the table is evaluated, and a frame word is accepted exactly when marker and command byte pass. -/
theorem decodeMapIsTheTable : Obligations.DecodeMapIsTheTable := by
  refine ⟨by rfl, fun f before after r hrows h hbefore => ?first, fun f hf => ?accepted, fun f hf => ?refused⟩
  case first =>
    apply decodeFrame_of_firstBuilt
    rw [hrows, firstBuilt_append h hbefore]
  case accepted =>
    obtain ⟨hm, hd⟩ := recognized_default_iff.mp hf
    exact ⟨_, decodeFrame_of_recognized hm hd⟩
  case refused =>
    by_cases hm : f.extractLsb' 48 8 = Config.default.startMarker
    · exact ⟨_, decodeFrame_of_badCommand hm fun hd => hf (recognized_default_iff.mpr ⟨hm, hd⟩)⟩
    · exact ⟨_, decodeFrame_of_badMarker hm⟩

/-- Settles O5: the decision of the decode map is the one of TXN_KIND, branch by branch. -/
theorem decodedKindIsTxnKind : Obligations.DecodedKindIsTxnKind := by
  intro c f i h
  obtain ⟨_, _, rfl⟩ := decodeFrame_eq_ok_iff.mp h
  exact instrKind_frameInstr ..

/-- Settles O10: the argument word is its four bytes side by side. -/
theorem argumentFieldsFromBytes : Obligations.ArgumentFieldsFromBytes := by
  intro b2 b3 b4 b5
  have hfields : decodeArgument ⟨b2, b3, b4, b5⟩ = argumentFields (b2 ++ b3 ++ b4 ++ b5) := by
    rw [decodeArgument, argumentWord_eq_append]
  refine ⟨argumentWord_eq_append .., hfields.trans (argumentFields_append ..), ?_⟩
  rw [hfields]
  exact ⟨setWidth_extractLsb'_eq_ushiftRight_and _ 9 17, setWidth_extractLsb'_eq_ushiftRight_and _ 0 9,
    setWidth_extractLsb'_eq_ushiftRight_and _ 28 3⟩

/-- Settles O39: PARSE_WINDOW reads the first six outbound bytes, and the payload its four inbound ones. -/
theorem untestedBytesNeverMatter : Obligations.UntestedBytesNeverMatter := by
  intro c out out' inb inb' hout hout' htake hinb
  have hpayload : payloadOf c inb = payloadOf c inb' := by rw [payloadOf_eq, payloadOf_eq, hinb]
  match out, out', hout, hout' with
  | b0 :: b1 :: b2 :: b3 :: b4 :: b5 :: b6 :: rest, _ :: _ :: _ :: _ :: _ :: _ :: b6' :: rest', _, _ =>
    simp only [List.take_succ_cons, List.take_zero, List.cons.injEq, and_true] at htake
    obtain ⟨rfl, rfl, rfl, rfl, rfl, rfl⟩ := htake
    have hread (b : Byte) (later : List Byte) :
        (memRead (b0 :: b1 :: b2 :: b3 :: b4 :: b5 :: b :: later) 0 frameLen).bind bytes7? =
          some #v[b0, b1, b2, b3, b4, b5, b] := by
      rw [memRead, if_pos (by simp [frameLen])]
      rfl
    simp only [parseWindow, hread, windowPayload, hpayload]
    rfl

/-- Settles O52, field by field from the least significant. -/
theorem recordWordLayout : Obligations.RecordWordLayout := by
  intro absent r w
  obtain ⟨hw, hfn, hbm, hinc, haddr, hcnt⟩ := Argument.mk.inj (recWord_argumentFields (absent := absent) (r := r))
  refine ⟨recWord_argument, hcnt.symm, haddr.symm, hinc.symm, hbm.symm, hfn.symm, hw.symm, recWord_category,
    recWord_kind, ?category, ?kind, recWord_present, fun p hp => ?payload, recWord_absent⟩
  case category => rw [recWord_category]; cases r.category <;> rfl
  case kind => rw [recWord_kind]; cases r.kind <;> rfl
  case payload =>
    have hpayload : w.extractLsb' 38 64 = p.activeMask ++ p.decodedPayload := recWord_payload hp
    have hlow := congrArg (BitVec.extractLsb' 0 32) hpayload
    have hhigh := congrArg (BitVec.extractLsb' 32 32) hpayload
    rw [extractLsb'_extractLsb' _ (by decide)] at hlow hhigh
    exact ⟨hlow.trans BitVec.extractLsb'_append_eq_right, hhigh.trans BitVec.extractLsb'_append_eq_left⟩

/-- Settles O6, by the equation of an event word's code. -/
theorem eventWords : Obligations.EventWords := by
  refine ⟨fun c d => ?_, fun c e => ⟨_, rfl⟩⟩
  have hdecode : ∀ code : BitVec 2, decode c (.event10 (code ++ d)) = .ok (decodeEvent (packEvent code d)) :=
    fun _ => rfl
  simp only [hdecode, decodeEvent_packEvent]
  exact ⟨rfl, rfl, rfl, rfl⟩

/-- Settles O8: each word is evaluated. -/
theorem sampleWordsDecode : Obligations.SampleWordsDecode := by
  unfold Obligations.SampleWordsDecode
  and_intros <;> decide

/-- Settles O12: the buffered bytes are the frame word's, and neighbouring fields join. -/
theorem commandWordOfFrame : Obligations.CommandWordOfFrame := by
  intro v f h
  obtain rfl := eq_of_frameWord_toList h
  have hbytes : f.extractLsb' 40 8 ++ f.extractLsb' 32 8 ++ f.extractLsb' 24 8 ++ f.extractLsb' 16 8
      ++ f.extractLsb' 8 8 ++ f.extractLsb' 0 8 = f.extractLsb' 0 48 := by
    iterate 5 rw [BitVec.extractLsb'_append_extractLsb'_eq_extractLsb' (by decide)]
  have hparts : f.extractLsb' 40 8 ++ f.extractLsb' 8 32 ++ f.extractLsb' 0 8 = f.extractLsb' 0 48 := by
    iterate 2 rw [BitVec.extractLsb'_append_extractLsb'_eq_extractLsb' (by decide)]
  have hargument : argumentWord ⟨f.extractLsb' 32 8, f.extractLsb' 24 8, f.extractLsb' 16 8, f.extractLsb' 8 8⟩ =
      f.extractLsb' 8 32 := by
    rw [argumentWord_eq_append]
    iterate 3 rw [BitVec.extractLsb'_append_extractLsb'_eq_extractLsb' (by decide)]
  rw [← hargument] at hparts
  exact ⟨hbytes, hbytes.trans hparts.symm, rfl⟩

/-- Settles O15, from what the kind says of each of the three; the table is evaluated. -/
theorem kindSaysCategoryIrqAndDirection : Obligations.KindSaysCategoryIrqAndDirection := by
  refine ⟨fun c f a w => ⟨category_txnKind, irq_txnKind, isWrite_txnKind, ?_⟩, rfl⟩
  rw [code_getLsbD_zero, isWrite_txnKind]

/-- Settles O17: the mask is evaluated. -/
theorem definedMask : Obligations.DefinedMask := by
  unfold Obligations.DefinedMask
  and_intros <;> decide

end Sys2Proof.Machine
end

section
/-! SUPPORT. The four-byte operands: a word and its bytes determine each other, and the payload's order is the argument's reversed (spec/20_memory.md R57, R58; spec/40_codec.md R123 to R127). -/

namespace Sys2Proof.Machine

open Sys2Proof

/-! ### The argument -/

theorem argumentBytes_argumentWord (b : Bytes4) : argumentBytes (argumentWord b) = b := by
  obtain ⟨b0, b1, b2, b3⟩ := b
  rw [argumentWord_eq_append, argumentBytes]
  simp only [extractLsb'_append_byte, BitVec.extractLsb'_append_eq_right, BitVec.extractLsb'_eq_self]

theorem argumentWord_argumentBytes (a : BitVec 32) : argumentWord (argumentBytes a) = a := by
  rw [argumentBytes, argumentWord_eq_append]
  iterate 3 rw [BitVec.extractLsb'_append_extractLsb'_eq_extractLsb' (by decide)]
  exact BitVec.extractLsb'_eq_self

theorem encodeArgument_decodeArgument (b : Bytes4) : encodeArgument (decodeArgument b) = b := by
  rw [encodeArgument, decodeArgument, packArgument_eq_argumentBits, argumentBits_argumentFields,
    argumentBytes_argumentWord]

theorem decodeArgument_encodeArgument (t : Argument) : decodeArgument (encodeArgument t) = t := by
  rw [decodeArgument, encodeArgument, argumentWord_argumentBytes, packArgument_eq_argumentBits,
    argumentFields_argumentBits]

/-! ### The payload -/

/-- Four bytes in the opposite transfer order (R58). -/
def reverseBytes (b : Bytes4) : Bytes4 := ⟨b.b3, b.b2, b.b1, b.b0⟩

theorem reverseBytes_reverseBytes (b : Bytes4) : reverseBytes (reverseBytes b) = b := rfl

theorem decodePayload_eq_argumentWord (b : Bytes4) : decodePayload b = argumentWord (reverseBytes b) := by
  have or_reversed (w x y z : BitVec 32) : w ||| x ||| y ||| z = z ||| y ||| x ||| w := by ac_rfl
  exact or_reversed ..

theorem encodePayload_eq_argumentBytes (p : BitVec 32) : encodePayload p = reverseBytes (argumentBytes p) := rfl

theorem decodePayload_encodePayload (p : BitVec 32) : decodePayload (encodePayload p) = p := by
  rw [decodePayload_eq_argumentWord, encodePayload_eq_argumentBytes, reverseBytes_reverseBytes,
    argumentWord_argumentBytes]

theorem encodePayload_decodePayload (b : Bytes4) : encodePayload (decodePayload b) = b := by
  rw [encodePayload_eq_argumentBytes, decodePayload_eq_argumentWord, argumentBytes_argumentWord,
    reverseBytes_reverseBytes]

end Sys2Proof.Machine
end

section
/-! CERTIFICATES. The statements about the codec (spec/40_codec.md). -/

namespace Sys2Proof.Machine

open Sys2Proof

/-- Settles O9: bytes and word, and word and fields, are inverse to each other, and a two-sided inverse makes a
bijection. -/
theorem argumentRoundTrip : Obligations.ArgumentRoundTrip :=
  ⟨encodeArgument_decodeArgument, decodeArgument_encodeArgument,
    Function.bijective_iff_has_inverse.mpr
      ⟨encodeArgument, encodeArgument_decodeArgument, decodeArgument_encodeArgument⟩⟩

/-- Settles O11: the payload is the argument word of the reversed bytes. -/
theorem payloadIsLittleEndian : Obligations.PayloadIsLittleEndian := by
  refine ⟨fun b0 b1 b2 b3 => ?littleEndian, fun _ => rfl, decodePayload_encodePayload, encodePayload_decodePayload,
    by decide⟩
  case littleEndian => exact (decodePayload_eq_argumentWord _).trans (argumentWord_eq_append ..)

end Sys2Proof.Machine
end

section
/-! SUPPORT. The category of each function and the displayed size as a number (spec/41_classifier.md R141, R144, R145, R149). -/

namespace Sys2Proof.Machine

open Sys2Proof

variable {c : Config} {fn : BitVec 3} {addr : BitVec 17} {w : Bool}

/-! ### The category, function by function (R141) -/

theorem classify_function_zero (c : Config) (addr : BitVec 17) : classify c 0#3 addr = .cardControl := if_pos rfl

theorem classify_function_two (c : Config) (addr : BitVec 17) : classify c 2#3 addr =
    if addr = c.irqStatusAddr ∨ addr = c.irqClearAddr then .registerControl else .bulkData := by
  rw [classify, if_neg (by decide), if_pos rfl]

theorem classify_of_function_ne (hzero : fn ≠ 0#3) (htwo : fn ≠ 2#3) : classify c fn addr = .registerControl := by
  rw [classify, if_neg hzero, if_neg htwo, ite_self]

/-- The interrupt registers stand before function 2 in the classifier, so recognising one fixes the category (R145). -/
theorem classify_of_irqKind_ne_none (h : irqKind c fn addr w ≠ .none) : classify c fn addr = .registerControl := by
  cases hk : irqKind c fn addr w with
  | none => exact absurd hk h
  | irqRead => exact classify_of_irqRead hk
  | irqClear => exact classify_of_irqClear hk

/-! ### The displayed size (R149) -/

variable {n : BitVec 9}

theorem displaySize_bytes (c : Config) (n : BitVec 9) : displaySize c false n = n.setWidth 18 := rfl

theorem toNat_displaySize_bytes : (displaySize c false n).toNat = n.toNat := by
  rw [displaySize_bytes, BitVec.toNat_setWidth_of_le (by decide)]

/-- Nine bits of count times 512 fit in the 18 bits of the size. -/
theorem toNat_displaySize_blocks (hsize : c.blockSize = 512) : (displaySize c true n).toNat = n.toNat * 512 := by
  have hfits : n.toNat * 512 < 2 ^ 18 := by omega
  rw [displaySize, if_pos rfl, hsize, BitVec.toNat_ofNat, Nat.mod_eq_of_lt hfits]

theorem displaySize_blocks_eq_shiftLeft (hsize : c.blockSize = 512) :
    displaySize c true n = n.setWidth 18 <<< 9 := by
  rw [BitVec.shiftLeft_eq_mul_twoPow]
  apply BitVec.eq_of_toNat_eq
  rw [toNat_displaySize_blocks hsize, BitVec.toNat_mul, BitVec.toNat_setWidth_of_le (by decide), BitVec.toNat_twoPow]
  omega

theorem toNat_displaySize_le (hsize : c.blockSize = 512) (bm : Bool) : (displaySize c bm n).toNat ≤ 261632 := by
  cases bm with
  | false => rw [toNat_displaySize_bytes]; omega
  | true => rw [toNat_displaySize_blocks hsize]; omega

end Sys2Proof.Machine
end

section
/-! CERTIFICATES. The statements about the classifier (spec/41_classifier.md). -/

namespace Sys2Proof.Machine

open Sys2Proof

/-- Settles O13: the three cases of the function number, and the two addresses of the default configuration. -/
theorem classifyTable : Obligations.ClassifyTable :=
  ⟨classify_function_zero, classify_function_two, fun _ _ _ => classify_of_function_ne, rfl, rfl⟩

/-- Settles O14: both recognised kinds are at an interrupt address and not at function 0; the two default instances
follow from being recognised. -/
theorem irqKindImpliesRegisterControl : Obligations.IrqKindImpliesRegisterControl := by
  have hread : irqKind Config.default 1#3 0x06050#17 false = .irqRead :=
    irqKind_eq_irqRead_iff.mpr ⟨by decide, rfl, rfl⟩
  have hclear : irqKind Config.default 1#3 0x06058#17 true = .irqClear :=
    irqKind_eq_irqClear_iff.mpr ⟨by decide, rfl, rfl⟩
  exact ⟨fun _ _ _ _ => classify_of_irqKind_ne_none, classify_of_irqRead hread, hread, classify_of_irqClear hclear,
    hclear⟩

/-- Settles O16: no size leaves the 18 bits, so each clause is about numbers, mode by mode. -/
theorem displaySizeInBytes : Obligations.DisplaySizeInBytes := by
  intro c hsize
  refine ⟨fun bm n => ?word, fun bm n => ?number, fun bm n => toNat_displaySize_le hsize bm, fun bm => ?zero,
    ?three, ?largest⟩
  case word =>
    cases bm with
    | false => exact displaySize_bytes c n
    | true => exact displaySize_blocks_eq_shiftLeft hsize
  case number =>
    cases bm with
    | false => exact toNat_displaySize_bytes
    | true => exact hsize ▸ toNat_displaySize_blocks hsize
  case zero =>
    cases bm with
    | false => exact displaySize_bytes c 0#9
    | true => exact displaySize_blocks_eq_shiftLeft hsize
  case three => exact displaySize_blocks_eq_shiftLeft hsize
  case largest => exact displaySize_blocks_eq_shiftLeft hsize

end Sys2Proof.Machine
end

section
/-! SUPPORT. The interrupt-status decoder by positions: the active mask and the reported positions determine each other, the names are the positions' own, a value decodes to its lowest position, and a scan goes through the positions one step each (spec/42_irq_decoder.md R161 to R163; log 5, log 20). -/

namespace Sys2Proof.Machine

open Sys2Proof

variable {c : Config} {s : State} {v w : BitVec 32} {k n : Nat}

/-! ### Defined positions, the active mask and the reported positions (R161, R162) -/

theorem mem_irqDefinedPositions : n ∈ irqDefinedPositions c ↔ c.irqDefinedMask.getLsbD n = true := by
  rw [irqDefinedPositions, List.mem_filter, List.mem_range, and_iff_right_of_imp BitVec.lt_of_getLsbD]

theorem irqBitSet_iff : irqBitSet c v n = true ↔ v.getLsbD n = true ∧ n ∈ irqDefinedPositions c := by
  rw [irqBitSet, Bool.and_eq_true, mem_irqDefinedPositions]

theorem irqBitSet_eq_false_iff : irqBitSet c v n = false ↔ (n ∈ irqDefinedPositions c → v.getLsbD n = false) := by
  rw [← Bool.not_eq_true, irqBitSet_iff, not_and', Bool.not_eq_true]

@[simp] theorem getLsbD_activeMask (c : Config) (v : BitVec 32) (n : Nat) :
    (activeMask c v).getLsbD n = irqBitSet c v n := BitVec.getLsbD_and

theorem mem_irqPositions_iff_activeMask : n ∈ irqPositions c v ↔ (activeMask c v).getLsbD n = true := by
  rw [mem_irqPositions, getLsbD_activeMask]

theorem mem_irqDefinedPositions_of_mem_irqPositions (h : n ∈ irqPositions c v) : n ∈ irqDefinedPositions c :=
  (irqBitSet_iff.mp (mem_irqPositions.mp h)).2

theorem filter_activeMask (c : Config) (v : BitVec 32) :
    (List.range 32).filter (activeMask c v).getLsbD = irqPositions c v :=
  congrArg (fun keep => (List.range 32).filter keep) (funext (getLsbD_activeMask c v))

theorem pairwise_irqPositions (c : Config) (v : BitVec 32) : (irqPositions c v).Pairwise (· < ·) :=
  List.pairwise_lt_range.filter _

theorem activeMask_activeMask (c : Config) (v : BitVec 32) : activeMask c (activeMask c v) = activeMask c v := by
  rw [activeMask, activeMask, BitVec.and_assoc, BitVec.and_self]

/-- A mask is contained in another when the conjunction changes nothing; masking keeps the containment. -/
theorem activeMask_and_activeMask (h : v &&& w = v) : activeMask c v &&& activeMask c w = activeMask c v := by
  calc activeMask c v &&& activeMask c w
      = activeMask c (activeMask c (v &&& w)) := by simp only [activeMask]; ac_rfl
    _ = activeMask c v := by rw [h, activeMask_activeMask]

/-- The decoder reads nothing of the value but its active mask. -/
theorem irqPositions_congr (h : activeMask c v = activeMask c w) : irqPositions c v = irqPositions c w := by
  rw [← filter_activeMask, h, filter_activeMask]

theorem activeMask_eq_of_positions (h : ∀ n, n ∈ irqPositions c v ↔ n ∈ irqPositions c w) :
    activeMask c v = activeMask c w :=
  BitVec.eq_of_getLsbD_eq fun n _ => Bool.eq_iff_iff.mpr <| by
    rw [← mem_irqPositions_iff_activeMask, ← mem_irqPositions_iff_activeMask, h]

/-! ### Names (R10, R163) -/

/-- The configuration names every defined position. -/
theorem isSome_irqNameAt (hwf : c.wf = true) (hn : n ∈ irqDefinedPositions c) : (irqNameAt c n).isSome = true := by
  have hbit := mem_irqDefinedPositions.mp hn
  obtain ⟨_, hnames⟩ := Bool.and_eq_true_iff.mp hwf
  have hiff := List.all_eq_true.mp hnames n (List.mem_range.mpr (BitVec.lt_of_getLsbD hbit))
  rw [irqNameAt, beq_iff_eq.mp hiff, hbit]

theorem length_decodeIrqBits (hwf : c.wf = true) (v : BitVec 32) :
    (decodeIrqBits c v).length = (irqPositions c v).length := by
  rw [decodeIrqBits, List.length_filterMap_eq_countP, List.countP_eq_length]
  exact fun n hn => isSome_irqNameAt hwf (mem_irqDefinedPositions_of_mem_irqPositions hn)

/-- Where the names at defined positions are distinct, a listed name says that its position is reported. -/
theorem mem_decodeIrqBits {x : String}
    (hinj : ∀ m ∈ irqDefinedPositions c, ∀ n ∈ irqDefinedPositions c, irqNameAt c m = irqNameAt c n → m = n)
    (hn : n ∈ irqDefinedPositions c) (hx : irqNameAt c n = some x) :
    x ∈ decodeIrqBits c v ↔ n ∈ irqPositions c v := by
  rw [decodeIrqBits, List.mem_filterMap]
  constructor
  · rintro ⟨m, hm, hmx⟩
    exact hinj m (mem_irqDefinedPositions_of_mem_irqPositions hm) n hn (hmx.trans hx.symm) ▸ hm
  · exact fun h => ⟨n, h, hx⟩

/-- Total and distinct names lose nothing: every reported position can be read back. -/
theorem mem_irqPositions_of_decodeIrqBits_eq (hwf : c.wf = true)
    (hinj : ∀ m ∈ irqDefinedPositions c, ∀ n ∈ irqDefinedPositions c, irqNameAt c m = irqNameAt c n → m = n)
    (h : decodeIrqBits c v = decodeIrqBits c w) (hn : n ∈ irqPositions c v) : n ∈ irqPositions c w := by
  have hdef := mem_irqDefinedPositions_of_mem_irqPositions hn
  obtain ⟨x, hx⟩ := Option.isSome_iff_exists.mp (isSome_irqNameAt hwf hdef)
  rw [← mem_decodeIrqBits hinj hdef hx] at hn ⊢
  exact h ▸ hn

/-! ### Decoding the lowest position (R161) -/

theorem lowestIrqBit_eq_head? (c : Config) (v : BitVec 32) : lowestIrqBit c v = (irqPositions c v).head? :=
  List.head?_filter.symm

theorem lowestIrqBit_eq_some (hset : irqBitSet c v n = true) (hlow : ∀ m, m < n → irqBitSet c v m = false) :
    lowestIrqBit c v = some n := by
  obtain ⟨hrange, _⟩ := List.mem_filter.mp (mem_irqPositions.mpr hset)
  exact List.find?_range_eq_some.mpr ⟨hset, hrange, fun m hm => by rw [hlow m hm]; rfl⟩

theorem lowestIrqBit_eq_none (h : ∀ n, irqBitSet c v n = false) : lowestIrqBit c v = none :=
  List.find?_eq_none.mpr fun n _ => Bool.eq_false_iff.mp (h n)

theorem lookup_irqRows_eq_none (h : ∀ i, (n, i) ∉ irqRows) : irqRows.lookup n = none :=
  Option.eq_none_iff_forall_ne_some.mpr fun i hi => h i (mem_of_lookup_irqRows hi)

theorem decode_pay32_row {i : Instr} (hlow : lowestIrqBit c v = some n) (h : (n, i) ∈ irqRows) :
    decode c (.pay32 v) = .ok i := by
  simp only [decode, decodeIrq, hlow, (lookup_irqRow h).2]

theorem decode_pay32_noRow (hlow : lowestIrqBit c v = some n) (h : ∀ i, (n, i) ∉ irqRows) :
    decode c (.pay32 v) = .error (.noRow n) := by
  simp only [decode, decodeIrq, hlow, lookup_irqRows_eq_none h]

theorem decode_pay32_noDefinedBit (hlow : lowestIrqBit c v = none) : decode c (.pay32 v) = .error .noDefinedBit := by
  simp only [decode, decodeIrq, hlow]

/-! ### The positions a scan has still to visit (log 5) -/

theorem irqRemaining_zero (v : BitVec 32) : irqRemaining v 0 = v := by
  rw [irqRemaining, BitVec.ushiftRight_zero, BitVec.shiftLeft_zero]

theorem irqPositions_irqRemaining (c : Config) (v : BitVec 32) (k : Nat) :
    irqPositions c (irqRemaining v k) = (irqPositions c v).filter (k ≤ ·) := by
  rw [irqPositions, irqPositions, List.filter_filter]
  refine List.filter_congr fun n _ => Bool.eq_iff_iff.mpr ?_
  rw [irqBitSet_irqRemaining, Bool.and_eq_true, decide_eq_true_iff]

/-- Behind the first remaining position the others remain. -/
theorem irqPositions_irqRemaining_succ {ns : List Nat} (h : irqPositions c (irqRemaining v k) = n :: ns) :
    irqPositions c (irqRemaining v (n + 1)) = ns := by
  have hsorted := pairwise_irqPositions c (irqRemaining v k)
  rw [h, List.pairwise_cons] at hsorted
  have hkn : k ≤ n := by
    have hmem : n ∈ irqPositions c (irqRemaining v k) := h ▸ List.mem_cons_self
    exact (irqBitSet_irqRemaining.mp (mem_irqPositions.mp hmem)).1
  calc irqPositions c (irqRemaining v (n + 1))
      = (irqPositions c (irqRemaining v k)).filter (n + 1 ≤ ·) := by
        rw [irqPositions_irqRemaining, irqPositions_irqRemaining, List.filter_filter]
        exact List.filter_congr fun m _ => by rw [← Bool.decide_and]; exact decide_eq_decide.mpr (by omega)
    _ = ns.filter (n + 1 ≤ ·) := by rw [h, List.filter_cons_of_neg (by simp)]
    _ = ns := List.filter_eq_self.mpr fun m hm => decide_eq_true (hsorted.1 m hm)

/-! ### The steps of a scan -/

theorem step_of_reject {x : CodeWord} {u : State} {r : DecodeReject} (hf : fetch s = some (x, u))
    (hd : decode u.cfg x = .error r) : step s = u.onReject r := by
  simp only [step, hf, hd]

/-- A scan that finds a position reports it, with a row or without one, and goes on behind it. -/
theorem step_irqScan_of_lowest {rest : List Input} (hin : s.input = .irqScan v k :: rest)
    (hlow : lowestIrqBit s.cfg (irqRemaining v k) = some n) :
    step s = .next { s with
      irqOut := (if k = 0 then [] else s.irqOut) ++ [n]
      input := .irqScan v (n + 1) :: rest } := by
  have hfetch := fetch_irqScan hin
  rw [takeIrqScan_of_lowest rest hlow] at hfetch
  by_cases hrow : ∃ i, (n, i) ∈ irqRows
  · obtain ⟨i, hi⟩ := hrow
    exact (step_of_decode hfetch (decode_pay32_row hlow hi)).trans (exec_irqRow hi _)
  · exact step_of_reject hfetch (decode_pay32_noRow hlow (not_exists.mp hrow))

/-- A scan that finds no position is over. -/
theorem step_irqScan_of_none {rest : List Input} (hin : s.input = .irqScan v k :: rest)
    (hlow : lowestIrqBit s.cfg (irqRemaining v k) = none) :
    step s = .next { s with irqOut := if k = 0 then [] else s.irqOut, input := rest } := by
  have hfetch := fetch_irqScan hin
  rw [State.takeIrqScan, hlow] at hfetch
  exact step_of_reject hfetch (decode_pay32_noDefinedBit hlow)

/-- From any place of a scan: one step for each remaining position and one that ends it. -/
theorem run_irqScan (ns : List Nat) (rest : List Input) (hin : s.input = .irqScan v k :: rest)
    (hns : irqPositions s.cfg (irqRemaining v k) = ns) :
    Host.Core.run Sys2Proof.core (ns.length + 1) s =
      .next { s with irqOut := (if k = 0 then [] else s.irqOut) ++ ns, input := rest } := by
  induction ns generalizing s k with
  | nil =>
    have hlow : lowestIrqBit s.cfg (irqRemaining v k) = none := by rw [lowestIrqBit_eq_head?, hns]; rfl
    rw [List.append_nil]
    exact run_succ_of_step (step_irqScan_of_none hin hlow)
  | cons n ns ih =>
    have hlow : lowestIrqBit s.cfg (irqRemaining v k) = some n := by rw [lowestIrqBit_eq_head?, hns]; rfl
    have hrest := ih
      (s := { s with irqOut := (if k = 0 then [] else s.irqOut) ++ [n], input := .irqScan v (n + 1) :: rest })
      rfl (irqPositions_irqRemaining_succ hns)
    rw [List.append_cons]
    exact (run_succ_of_step (step_irqScan_of_lowest hin hlow)).trans hrest

end Sys2Proof.Machine
end

section
/-! CERTIFICATES. The statements about the interrupt-status decoder (spec/42_irq_decoder.md). -/

namespace Sys2Proof.Machine

open Sys2Proof

/-- Settles O7: the least defined set position is the one the decoder looks up. -/
theorem irqRowsAscending : Obligations.IrqRowsAscending := by
  obtain ⟨_, _, hdefault, _⟩ := definedMask
  refine fun c p => ⟨fun n hn hset hleast => ?lowest, fun hclear => ?noBit, hdefault.symm⟩
  case lowest =>
    have hlow : lowestIrqBit c p = some n :=
      lowestIrqBit_eq_some (irqBitSet_iff.mpr ⟨hset, hn⟩) fun m hm =>
        irqBitSet_eq_false_iff.mpr fun hdef => hleast m hdef hm
    exact ⟨fun i hi => ⟨decode_pay32_row hlow hi, exec_irqRow hi⟩, decode_pay32_noRow hlow⟩
  case noBit =>
    exact decode_pay32_noDefinedBit (lowestIrqBit_eq_none fun n => irqBitSet_eq_false_iff.mpr (hclear n))

/-- Settles O18: the names stand for the positions and the positions for the active mask. -/
theorem irqDecoderLaws : Obligations.IrqDecoderLaws := by
  refine fun c => ⟨pairwise_irqPositions c, activeMask_activeMask c, fun v w => activeMask_and_activeMask,
    fun v => ?maskOnly, fun hwf v => ?length, fun hwf hinj v w => ⟨fun h => ?injective, fun h => ?congruent⟩⟩
  case maskOnly => rw [decodeIrqBits, decodeIrqBits, irqPositions_congr (activeMask_activeMask c v)]
  case length => rw [length_decodeIrqBits hwf, List.countP_eq_length_filter, filter_activeMask]
  case injective =>
    exact activeMask_eq_of_positions fun n =>
      ⟨mem_irqPositions_of_decodeIrqBits_eq hwf hinj h, mem_irqPositions_of_decodeIrqBits_eq hwf hinj h.symm⟩
  case congruent => rw [decodeIrqBits, decodeIrqBits, irqPositions_congr h]

/-- Settles O19: bit by bit, and the listing keeps the same positions. -/
theorem activeMaskIsThePositions : Obligations.ActiveMaskIsThePositions := by
  refine fun c v => ⟨fun n => mem_irqPositions_iff_activeMask, fun n => mem_irqPositions.trans irqBitSet_iff, ?_⟩
  rw [filter_activeMask, decodeIrqBits]

/-- Settles O21: a scan from position 0 has every reported position to visit. -/
theorem scanReportsEveryPosition : Obligations.ScanReportsEveryPosition := by
  intro s v rest hin
  exact run_irqScan _ rest hin (congrArg (irqPositions s.cfg) (irqRemaining_zero v))

/-- Settles O20: each instruction is the row of its position. -/
theorem irqBitRowsReport : Obligations.IrqBitRowsReport := by
  unfold Obligations.IrqBitRowsReport
  and_intros <;> exact exec_irqRow (by decide)

end Sys2Proof.Machine
end

section
/-! SUPPORT. The interface events on registers: what each does where the contract allows it, and what the frame evaluation decides (spec/43_assembler.md R175 to R181; spec/70_reset_and_hazards.md R290). -/

namespace Sys2Proof.Machine

open Sys2Proof

variable {s t : State}

/-! ### The events inside and outside a window -/

theorem exec_windowStart_of_closed (hw : s.win = false) : exec .windowStart s = .next s.openWindow := by
  simp [exec, execWindowStart, hw]

theorem exec_windowStart_of_open (hw : s.win = true) : exec .windowStart s = .refused .windowStartInWindow := by
  simp [exec, execWindowStart, hw]

theorem exec_outByte_of_open (hw : s.win = true) (b : Byte) : exec (.outByte b) s = .next (s.receiveOut b) := by
  simp [exec, execOutByte, hw]

theorem exec_outByte_of_closed (hw : s.win = false) (b : Byte) :
    exec (.outByte b) s = .refused .outByteOutsideWindow := by
  simp [exec, execOutByte, hw]

theorem exec_inByte_of_open (hw : s.win = true) (b : Byte) : exec (.inByte b) s = .next (s.receiveIn b) := by
  simp [exec, execInByte, hw]

theorem exec_inByte_of_closed (hw : s.win = false) (b : Byte) :
    exec (.inByte b) s = .refused .inByteOutsideWindow := by
  simp [exec, execInByte, hw]

theorem exec_windowEnd_of_open (hw : s.win = true) : exec .windowEnd s = s.closeWindow := by
  simp [exec, execWindowEnd, hw]

theorem exec_windowEnd_of_closed (hw : s.win = false) : exec .windowEnd s = .refused .windowEndOutsideWindow := by
  simp [exec, execWindowEnd, hw]

/-! ### An outbound byte, by how many came before it (R176) -/

theorem setIfInBounds_eq_set {α : Type} {n i : Nat} (v : Vector α n) (x : α) (h : i < n) :
    v.setIfInBounds i x = v.set i x := by
  ext j hj
  simp [Vector.getElem_setIfInBounds, Vector.getElem_set]

/-- A counter register's successor, written as a number. -/
theorem ofNat_toNat_succ {w : Nat} (x : BitVec w) : BitVec.ofNat w (x.toNat + 1) = x + 1#w := by
  rw [BitVec.ofNat_add, BitVec.ofNat_toNat, BitVec.setWidth_eq]

theorem receiveOut_before_seventh {k : Nat} (h : s.ocnt.toNat = k) (hk : k < 6) (b : Byte) :
    s.receiveOut b =
      { s with
        obuf := s.obuf.set k b (by omega)
        ocnt := BitVec.ofNat 3 (k + 1)
        outSeq := s.outSeq ++ [b] } := by
  subst h
  rcases s.captureOut_cases b with ⟨hn, _⟩ | ⟨_, heq⟩ | ⟨hn, _⟩
  · omega
  · rw [State.receiveOut, heq, setIfInBounds_eq_set _ _ (by omega), ofNat_toNat_succ]
  · omega

theorem receiveOut_seventh (h : s.ocnt.toNat = 6) (b : Byte) :
    s.receiveOut b =
      { s with
        obuf := s.obuf.set 6 b
        ocnt := 7#3
        st := frameState s.cfg (s.obuf.set 6 b)
        outSeq := s.outSeq ++ [b] } := by
  rcases s.captureOut_cases b with ⟨hn, _⟩ | ⟨hn, _⟩ | ⟨_, heq⟩
  · omega
  · omega
  · rw [State.receiveOut, heq, setIfInBounds_eq_set _ _ (by decide)]

theorem receiveOut_after_seventh (h : s.ocnt.toNat = 7) (b : Byte) :
    s.receiveOut b = { s with outSeq := s.outSeq ++ [b] } := by
  rcases s.captureOut_cases b with ⟨_, heq⟩ | ⟨hn, _⟩ | ⟨hn, _⟩
  · rw [State.receiveOut, heq]
  · omega
  · omega

@[simp] theorem State.receiveOut_recValid (s : State) (b : Byte) : (s.receiveOut b).recValid = s.recValid := by
  obtain ⟨_, _, _, h⟩ := s.receiveOut_frame b; rw [h]

/-! ### What the seventh byte decides (R177) -/

theorem frameState_eq (c : Config) (v : Vector Byte 7) :
    frameState c v =
      if v[0] ≠ c.startMarker ∨ v[1] &&& c.cmdMask ≠ c.cmdMatch then .rejected
      else if irqKind c (decodeArgument (obufArgument v)).function (decodeArgument (obufArgument v)).address
          (decodeArgument (obufArgument v)).isWrite = .none then .frameRecognized
      else .payloadPending := by
  by_cases hm : v[0] = c.startMarker
  · by_cases hd : v[1] &&& c.cmdMask = c.cmdMatch
    · simp [frameState, frameCheck, splitFrame, hm, hd]
    · simp [frameState, frameCheck, splitFrame, hm, hd]
  · simp [frameState, frameCheck, splitFrame, hm]

theorem frameState_eq_rejected_iff {c : Config} {v : Vector Byte 7} :
    frameState c v = .rejected ↔ v[0] ≠ c.startMarker ∨ v[1] &&& c.cmdMask ≠ c.cmdMatch := by
  rw [frameState_eq]
  split_ifs <;> simp_all

theorem frameState_eq_payloadPending_iff {c : Config} {v : Vector Byte 7} :
    frameState c v = .payloadPending ↔
      v[0] = c.startMarker ∧ v[1] &&& c.cmdMask = c.cmdMatch
        ∧ irqKind c (decodeArgument (obufArgument v)).function (decodeArgument (obufArgument v)).address
            (decodeArgument (obufArgument v)).isWrite ≠ .none := by
  by_cases hm : v[0] = c.startMarker
  · by_cases hd : v[1] &&& c.cmdMask = c.cmdMatch
    · simp [frameState_eq, hm, hd]
    · simp [frameState_eq, hd]
  · simp [frameState_eq, hm]

theorem irqKind_ne_none_iff {c : Config} {fn : BitVec 3} {addr : BitVec 17} {w : Bool} :
    irqKind c fn addr w ≠ .none ↔
      fn ≠ 0#3 ∧ (addr = c.irqStatusAddr ∧ w = false ∨ addr = c.irqClearAddr ∧ w = true) := by
  unfold irqKind
  split_ifs <;> simp_all

theorem decodeArgument_obufArgument (v : Vector Byte 7) :
    decodeArgument (obufArgument v) = argumentFields (v[2] ++ v[3] ++ v[4] ++ v[5]) :=
  congrArg argumentFields (argumentWord_eq_append ..)

/-! ### An inbound byte, by how many came before it (R179) -/

theorem receiveIn_before_payload (h : s.icnt.toNat < s.cfg.payloadOffset.val) (b : Byte) :
    s.receiveIn b = { s with icnt := BitVec.ofNat 4 (s.icnt.toNat + 1), inSeq := s.inSeq ++ [b] } := by
  have hend : s.cfg.payloadEnd = s.cfg.payloadOffset.val + 4 := rfl
  rcases s.captureIn_cases b with ⟨_, heq⟩ | ⟨hlo, _⟩ | ⟨hn, _⟩
  · rw [State.receiveIn, heq, ofNat_toNat_succ]
  · omega
  · omega

theorem receiveIn_payload {j : Nat} (h : s.icnt.toNat = s.cfg.payloadOffset.val + j) (hj : j < 4) (b : Byte) :
    s.receiveIn b =
      { s with
        ibuf := s.ibuf.set j b
        icnt := BitVec.ofNat 4 (s.icnt.toNat + 1)
        inSeq := s.inSeq ++ [b] } := by
  have hend : s.cfg.payloadEnd = s.cfg.payloadOffset.val + 4 := rfl
  obtain rfl : s.icnt.toNat - s.cfg.payloadOffset.val = j := by omega
  rcases s.captureIn_cases b with ⟨hn, _⟩ | ⟨_, _, heq⟩ | ⟨hn, _⟩
  · omega
  · rw [State.receiveIn, heq, setIfInBounds_eq_set _ _ hj, ofNat_toNat_succ]
  · omega

theorem receiveIn_after_payload (h : s.cfg.payloadOffset.val + 4 ≤ s.icnt.toNat) (b : Byte) :
    s.receiveIn b = { s with inSeq := s.inSeq ++ [b] } := by
  have hend : s.cfg.payloadEnd = s.cfg.payloadOffset.val + 4 := rfl
  rcases s.captureIn_cases b with ⟨hn, _⟩ | ⟨_, hn, _⟩ | ⟨_, heq⟩
  · omega
  · omega
  · rw [State.receiveIn, heq]

/-! ### The end of a window, by the state of the state machine (R180) -/

theorem closeWindow_awaiting (h : s.st = .awaitingFrame) : s.closeWindow = .next (s.takeMalformed .malformedShort) := by
  rw [State.closeWindow, h]

theorem takeMalformed_of_rejected (h : s.st = .rejected) (k : Cause) :
    s.takeMalformed k = { s with win := false, recValid := false, cause := k } := by
  rw [State.takeMalformed, State.enterRejected, ← h]

theorem closeWindow_rejected (h : s.st = .rejected) :
    s.closeWindow =
      .next (s.takeMalformed (if s.obuf[0] ≠ s.cfg.startMarker then .malformedMarker else .malformedCommand)) := by
  rw [State.closeWindow, h]
  rfl

theorem closeWindow_frameRecognized (h : s.st = .frameRecognized) :
    s.closeWindow =
      .next (s.emit (classifiedRecord s.cfg (decodeArgument (obufArgument s.obuf)) none) .none) := by
  rw [State.closeWindow, State.capturedPayload, h]
  rfl

theorem closeWindow_payloadWhole (h : s.st = .payloadPending) (hn : s.icnt.toNat = s.cfg.payloadEnd) :
    s.closeWindow =
      .next (s.emit (classifiedRecord s.cfg (decodeArgument (obufArgument s.obuf))
        (some (irqPayload s.cfg (decodePayload (ibufPayload s.ibuf))))) .none) := by
  simp only [State.closeWindow, State.capturedPayload, h, hn, and_self, if_true]

theorem closeWindow_payloadTruncated (h : s.st = .payloadPending) (hn : s.icnt.toNat ≠ s.cfg.payloadEnd) :
    s.closeWindow =
      .next (s.emit (classifiedRecord s.cfg (decodeArgument (obufArgument s.obuf)) none) .truncatedPayload) := by
  simp only [State.closeWindow, State.capturedPayload, h, hn, and_false, if_false]

/-- Whether a window's end leaves `Rejected` or `Complete` is settled by where it found the state machine. -/
theorem st_of_closeWindow (hc : s.closeWindow = .next t) :
    ((s.st = .awaitingFrame ∨ s.st = .rejected) ∧ t.st = .rejected)
      ∨ ((s.st = .frameRecognized ∨ s.st = .payloadPending) ∧ t.st = .complete) := by
  rcases State.closeWindow_next hc with ⟨h, rfl⟩ | ⟨h, rfl⟩ | ⟨h, rfl⟩
  · exact .inl ⟨.inl h, rfl⟩
  · exact .inl ⟨.inr h, rfl⟩
  · exact .inr ⟨h, rfl⟩

theorem closeWindow_complete (h : s.st = .complete) : s.closeWindow = .fault .windowEndInComplete := by
  rw [State.closeWindow, h]

/-! ### The state machine under the invariant (R36, R177, R178) -/

theorem Inv.st_of_closed (h : Inv s) (hw : s.win = false) :
    s.st = .awaitingFrame ∨ s.st = .rejected ∨ s.st = .complete := by
  have hnot : ¬ (s.st = .frameRecognized ∨ s.st = .payloadPending) := fun hst => by
    obtain ⟨hopen, _⟩ := h.recognized hst
    rw [hw] at hopen
    cases hopen
  cases hst : s.st <;> simp [hst] at hnot ⊢

theorem Inv.st_ne_complete (h : Inv s) (hw : s.win = true) : s.st ≠ .complete := fun hst => by
  rw [h.complete hst] at hw
  cases hw

theorem Inv.awaitingFrame_iff (h : Inv s) (hw : s.win = true) : s.st = .awaitingFrame ↔ s.ocnt.toNat ≤ 6 := by
  obtain ⟨_, _, _, hst⟩ := (inv_iff_of_open hw).mp h
  have hlt := s.ocnt.isLt
  rw [hst, windowFsm]
  split
  case isTrue hn =>
    simp only [frameLen] at hn
    exact iff_of_false (frameState_ne ..).1 (by omega)
  case isFalse hn =>
    simp only [frameLen] at hn
    exact iff_of_true rfl (by omega)

end Sys2Proof.Machine
end

section
/-! SUPPORT. PARSE_WINDOW by the frame word of the outbound sequence, and its payload (spec/43_assembler.md R171 to R174). -/

namespace Sys2Proof.Machine

open Sys2Proof

variable {c : Config} {out inb : List Byte} {f : BitVec 56}

/-! ### The frame -/

/-- What a window with a recognised frame emits: the record of its argument, classified (R171, R174). -/
def recognizedOutcome (c : Config) (t : Argument) (inb : List Byte) : Option Transaction × Cause :=
  (some (classifiedRecord c t (windowPayload c (irqKind c t.function t.address t.isWrite) inb).1),
    (windowPayload c (irqKind c t.function t.address t.isWrite) inb).2)

theorem parseWindow_short (h : out.length < 7) : parseWindow c out inb = (none, .malformedShort) := by
  rw [parseWindow, memRead_eq_none h]
  rfl

/-- The seven bytes `PARSE_WINDOW` reads are the frame word's (R81, R171). -/
theorem memRead_of_frameWord (hf : frameWord out = some f) :
    (memRead out 0 frameLen).bind bytes7? =
      some #v[f.extractLsb' 48 8, f.extractLsb' 40 8, f.extractLsb' 32 8, f.extractLsb' 24 8, f.extractLsb' 16 8,
        f.extractLsb' 8 8, f.extractLsb' 0 8] := by
  have hbytes := frameWord_some hf
  have hlen : 0 + frameLen ≤ out.length := by
    have hseven := congrArg List.length hbytes
    rw [List.length_take] at hseven
    simp only [frameBytes, List.length_cons, List.length_nil] at hseven
    simp only [frameLen]
    omega
  rw [memRead, if_pos hlen, List.drop_zero, frameLen, ← hbytes]
  rfl

theorem parseWindow_of_frameWord (hf : frameWord out = some f) :
    parseWindow c out inb =
      match frameCheck c (f.extractLsb' 48 8) (frameDir f) with
      | .badMarker => (none, .malformedMarker)
      | .badCommand => (none, .malformedCommand)
      | .ok => recognizedOutcome c (frameArgument f) inb := by
  have hargument : frameArgument f =
      decodeArgument ⟨f.extractLsb' 32 8, f.extractLsb' 24 8, f.extractLsb' 16 8, f.extractLsb' 8 8⟩ := by
    rw [decodeArgument, argumentWord_eq_append, frameArgument_eq_argumentFields]
    iterate 3 rw [BitVec.extractLsb'_append_extractLsb'_eq_extractLsb' (by decide)]
  rw [parseWindow, memRead_of_frameWord hf, hargument]
  rfl

theorem parseWindow_badMarker (hf : frameWord out = some f) (hm : f.extractLsb' 48 8 ≠ c.startMarker) :
    parseWindow c out inb = (none, .malformedMarker) := by
  rw [parseWindow_of_frameWord hf, frameCheck, if_pos hm]

theorem parseWindow_badCommand (hf : frameWord out = some f) (hm : f.extractLsb' 48 8 = c.startMarker)
    (hd : frameDir f &&& c.cmdMask ≠ c.cmdMatch) : parseWindow c out inb = (none, .malformedCommand) := by
  rw [parseWindow_of_frameWord hf, frameCheck, if_neg (not_not.mpr hm), if_pos hd]

theorem parseWindow_recognized (hf : frameWord out = some f) (hm : f.extractLsb' 48 8 = c.startMarker)
    (hd : frameDir f &&& c.cmdMask = c.cmdMatch) :
    parseWindow c out inb = recognizedOutcome c (frameArgument f) inb := by
  rw [parseWindow_of_frameWord hf, frameCheck, if_neg (not_not.mpr hm), if_neg (not_not.mpr hd)]

theorem length_of_frameWord_eq_none (h : frameWord out = none) : out.length < 7 := by
  by_contra hlen
  match out, Nat.not_lt.mp hlen with
  | _ :: _ :: _ :: _ :: _ :: _ :: _ :: _, _ => cases h

/-- The two ways a window ends (R172, R173), each with the decoder's answer to its outbound bytes. -/
inductive WindowCase (c : Config) (out inb : List Byte) : Prop
  | rejected {r : DecodeReject} (hr : r = .shortFrame ∨ r = .badMarker ∨ r = .badCommand)
      (hdecode : decode c (.frame out) = .error r) (hparse : parseWindow c out inb = (none, rejectCause r))
  | recognized {f : BitVec 56} (hf : frameWord out = some f) (hm : f.extractLsb' 48 8 = c.startMarker)
      (hdecode : decode c (.frame out) = .ok (frameInstr c (frameDir f) (frameArgument f) (frameCrc f)))
      (hparse : parseWindow c out inb = recognizedOutcome c (frameArgument f) inb)

/-- The decoder and `PARSE_WINDOW` make the same tests in the same order (R103, R122, R171). -/
theorem windowCase (c : Config) (out inb : List Byte) : WindowCase c out inb := by
  cases hf : frameWord out with
  | none =>
    exact .rejected (.inl rfl) (by simp only [decode, hf]) (parseWindow_short (length_of_frameWord_eq_none hf))
  | some f =>
    have hdecode : decode c (.frame out) = decodeFrame c f := by simp only [decode, hf]
    by_cases hm : f.extractLsb' 48 8 = c.startMarker
    · by_cases hd : frameDir f &&& c.cmdMask = c.cmdMatch
      · exact .recognized hf hm (hdecode.trans (decodeFrame_of_recognized hm hd)) (parseWindow_recognized hf hm hd)
      · exact .rejected (.inr (.inr rfl)) (hdecode.trans (decodeFrame_of_badCommand hm hd))
          (parseWindow_badCommand hf hm hd)
    · exact .rejected (.inr (.inl rfl)) (hdecode.trans (decodeFrame_of_badMarker hm)) (parseWindow_badMarker hf hm)

/-- A window that emits a record has a recognised frame. -/
theorem parseWindow_eq_some {r : Transaction} {k : Cause} (h : parseWindow c out inb = (some r, k)) :
    ∃ t, (some r, k) = recognizedOutcome c t inb := by
  cases windowCase c out inb with
  | rejected _ _ hparse => cases hparse.symm.trans h
  | recognized _ _ _ hparse => exact ⟨_, h.symm.trans hparse⟩

/-! ### The payload -/

theorem payloadOf_short (h : inb.length < c.payloadOffset.val + 4) : payloadOf c inb = none := by
  rw [payloadOf, payloadLen, memRead_eq_none h]
  rfl

theorem payloadOf_whole {b0 b1 b2 b3 : Byte} (h : (inb.drop c.payloadOffset.val).take 4 = [b0, b1, b2, b3]) :
    payloadOf c inb = some (b3 ++ b2 ++ b1 ++ b0) := by
  rw [payloadOf_eq, h]
  exact congrArg some ((decodePayload_eq_argumentWord _).trans (argumentWord_eq_append ..))

/-- A sequence that reaches past the payload has its four bytes. -/
theorem exists_payload_bytes (h : c.payloadOffset.val + 4 ≤ inb.length) :
    ∃ b0 b1 b2 b3, (inb.drop c.payloadOffset.val).take 4 = [b0, b1, b2, b3] := by
  refine List.length_eq_four.mp ?_
  rw [List.length_take, List.length_drop]
  omega

/-- The payload's bytes, read one by one. -/
theorem payload_bytes_of_getElem? {k : Nat} {b0 b1 b2 b3 : Byte} (h0 : inb[k]? = some b0) (h1 : inb[k + 1]? = some b1)
    (h2 : inb[k + 2]? = some b2) (h3 : inb[k + 3]? = some b3) : (inb.drop k).take 4 = [b0, b1, b2, b3] := by
  simp [List.take_add_one, h0, h1, h2, h3]

theorem windowPayload_none (c : Config) (inb : List Byte) : windowPayload c .none inb = (none, .none) := rfl

theorem windowPayload_short {irq : IrqKind} (hirq : irq ≠ .none) (h : inb.length < c.payloadOffset.val + 4) :
    windowPayload c irq inb = (none, .truncatedPayload) := by
  rw [windowPayload, if_neg hirq, payloadOf_short h]

theorem windowPayload_whole {irq : IrqKind} {b0 b1 b2 b3 : Byte} (hirq : irq ≠ .none)
    (h : (inb.drop c.payloadOffset.val).take 4 = [b0, b1, b2, b3]) :
    windowPayload c irq inb = (some (irqPayload c (b3 ++ b2 ++ b1 ++ b0)), .none) := by
  rw [windowPayload, if_neg hirq, payloadOf_whole h]

/-- The names of a record's payload are those of the payload's value (R100, R162). -/
theorem activeInterruptNames_irqPayload (c : Config) (p : BitVec 32) :
    activeInterruptNames c (irqPayload c p) = decodeIrqBits c p :=
  congrArg (List.filterMap (irqNameAt c)) (irqPositions_congr (activeMask_activeMask c p))

theorem decodeIrqBits_eq_nil {p : BitVec 32} (h : activeMask c p = 0#32) : decodeIrqBits c p = [] := by
  rw [decodeIrqBits, ← filter_activeMask, h, List.filter_eq_nil_iff.mpr fun n _ => by simp]
  rfl

end Sys2Proof.Machine
end

section
/-! SUPPORT. A window delivered whole and one delivered event by event leave the same state: the registers after all bytes, and the end of the window with the outcome of PARSE_WINDOW (spec/43_assembler.md R171, R190 to R198; log 8). -/

namespace Sys2Proof.Machine

open Sys2Proof

variable {s t : State} {out inb : List Byte}

/-! ### The end of a window, by its outcome -/

/-- The end of a window with the given outcome: the record emitted, or the window rejected (R180). -/
def State.finishWindow (s : State) (outcome : Option Transaction × Cause) : State :=
  match outcome.1 with
  | some r => s.emit r outcome.2
  | none => s.takeMalformed outcome.2

theorem hasOutcome_finishWindow (s : State) (outcome : Option Transaction × Cause) :
    HasOutcome (s.finishWindow outcome) outcome := by
  obtain ⟨_ | r, k⟩ := outcome
  · exact hasOutcome_takeMalformed s k
  · exact hasOutcome_emit s r k

/-- The end of a window leaves the delivered sequences, the counters and the buffers alone. -/
theorem State.finishWindow_frame (s : State) (outcome : Option Transaction × Cause) :
    ∃ st recValid record cause, s.finishWindow outcome =
      { s with st := st, win := false, recValid := recValid, record := record, cause := cause } := by
  obtain ⟨_ | r, k⟩ := outcome
  · exact ⟨_, _, _, _, rfl⟩
  · exact ⟨_, _, _, _, rfl⟩

theorem eq_finishWindow_of_hasOutcome {outcome : Option Transaction × Cause} (hc : s.closeWindow = .next t)
    (ho : HasOutcome t outcome) : t = s.finishWindow outcome := by
  obtain ⟨rfl, _⟩ := ho
  rcases State.closeWindow_next hc with ⟨_, rfl⟩ | ⟨_, rfl⟩ | ⟨_, rfl⟩ <;> rfl

/-- `WINDOW_END` on an open window finishes it with what `PARSE_WINDOW` gives (R190). -/
theorem Inv.closeWindow_eq (h : Inv s) (hw : s.win = true) :
    s.closeWindow = .next (s.finishWindow (parseWindow s.cfg s.outSeq s.inSeq)) := by
  obtain ⟨t, hc, ho⟩ := h.closeWindow_hasOutcome hw
  rw [hc, eq_finishWindow_of_hasOutcome hc ho]

theorem HasOutcome.output_eq {outcome : Option Transaction × Cause} (h : HasOutcome t outcome) :
    t.output = outcome.1 := congrArg Prod.fst h.1

theorem State.isSome_output (s : State) : s.output.isSome = s.recValid := by
  cases h : s.recValid <;> simp [State.output, h]

/-- After a window `st` says whether there is a record (R180, R182). -/
theorem HasOutcome.st_eq {outcome : Option Transaction × Cause} (h : HasOutcome t outcome) :
    t.st = if t.recValid then .complete else .rejected := by
  rw [← State.isSome_output, h.output_eq]
  exact h.2

/-- A window finished with the outcome of its own bytes has correct outputs. -/
theorem outputCorrect_finishWindow (s : State) :
    OutputCorrect (s.finishWindow (parseWindow s.cfg s.outSeq s.inSeq)) := by
  obtain ⟨hpair, _⟩ := hasOutcome_finishWindow s (parseWindow s.cfg s.outSeq s.inSeq)
  obtain ⟨st, v, r, k, heq⟩ := s.finishWindow_frame (parseWindow s.cfg s.outSeq s.inSeq)
  intro _ _
  rw [hpair, heq]

/-! ### A frame row (R191 to R198) -/

theorem fillFrom_of_take {n : Nat} {v : Vector Byte n} {seq : List Byte} (w : Vector Byte n)
    (h : v.toList = seq.take n) : fillFrom w 0 seq = v := by
  have hlen := congrArg List.length h
  rw [Vector.length_toList, List.length_take] at hlen
  refine Vector.ext fun i hi => ?_
  rw [← Option.some_inj, ← Vector.getElem?_eq_getElem, ← Vector.getElem?_eq_getElem, fillFrom_getElem?,
    if_pos (by omega), ← Vector.getElem?_toList, h, List.getElem?_take_of_lt hi, Nat.sub_zero]

/-- The inbound buffer after a whole sequence: each of its bytes is the delivered one, or else the old one (R21). -/
theorem State.absorbIn_ibuf_eq (s : State) :
    s.absorbIn.ibuf =
      #v[ibufAfter s 0 s.ibuf[0], ibufAfter s 1 s.ibuf[1], ibufAfter s 2 s.ibuf[2], ibufAfter s 3 s.ibuf[3]] := by
  have hbyte : ∀ (j : Nat) (hj : j < 4), s.absorbIn.ibuf[j] = ibufAfter s j s.ibuf[j] := fun j hj => by
    rw [← Option.some_inj, ← Vector.getElem?_eq_getElem, State.absorbIn_ibuf, fillFrom_getElem?, Nat.sub_zero,
      List.getElem?_drop, List.length_drop, ibufAfter]
    by_cases hin : s.cfg.payloadOffset.val + j < s.inSeq.length
    · rw [if_pos (by omega), List.getElem?_eq_getElem hin, Option.getD_some]
    · rw [if_neg (by omega), List.getElem?_eq_none (by omega), Option.getD_none, Vector.getElem?_eq_getElem]
  refine Vector.ext fun j hj => ?_
  rw [hbyte j hj]
  match j, hj with
  | 0, _ | 1, _ | 2, _ | 3, _ => rfl

theorem frameBuffer_eq (c : Config) (dir : Byte) (a : Argument) (crc : Byte) :
    frameBuffer c dir a crc =
      #v[c.startMarker, dir, (argumentBits a).extractLsb' 24 8, (argumentBits a).extractLsb' 16 8,
        (argumentBits a).extractLsb' 8 8, (argumentBits a).extractLsb' 0 8, crc] := by
  rw [← packArgument_eq_argumentBits]
  rfl

/-- A frame row between windows leaves the state of its window's end, with the payload its sequence holds. -/
theorem State.runFrame_eq_afterFrame {dir crc : Byte} {a : Argument} {cat : Category} {k : Kind} {irq : IrqKind}
    {payload : Option IrqPayload} {why : Cause} (hw : s.win = false)
    (hp : windowPayload s.cfg irq s.inSeq = (payload, why)) :
    s.runFrame dir a crc cat k irq = .next (afterFrame s dir a crc cat k payload why) := by
  rw [afterFrame, ← State.absorbIn_ibuf_eq, ← frameBuffer_eq]
  simp only [State.runFrame, hw, hp]
  rfl

theorem State.runFrame_eq_of_noPayload {dir crc : Byte} {a : Argument} {cat : Category} {k : Kind}
    (hw : s.win = false) : s.runFrame dir a crc cat k .none = .next (afterFrame s dir a crc cat k none .none) :=
  State.runFrame_eq_afterFrame hw (windowPayload_none ..)

/-- The row of a recognised frame runs it with the classifier's category, kind and interrupt recognition (R102). -/
theorem exec_frameInstr (s : State) (dir : Byte) (a : Argument) (crc : Byte) :
    exec (frameInstr s.cfg dir a crc) s =
      s.runFrame dir a crc (classify s.cfg a.function a.address)
        (txnKind s.cfg a.function a.address a.isWrite) (irqKind s.cfg a.function a.address a.isWrite) := by
  obtain ⟨w, fn, bm, inc, addr, cnt⟩ := a
  rw [frameInstr]
  split_ifs
  -- each branch is one row, and what the row fixes is the classifier's answer under the branch's tests
  all_goals
    simp_all [exec, execCardRd, execCardWr, execIrqRd, execIrqClr, execCmd53WrStatus, execCmd53RdClear, execBulkRd,
      execBulkWr, execCmd53Rd, execCmd53Wr, txnKind, classify, irqKind]

/-! ### A window delivered whole (R171) -/

/-- The registers once all bytes of a window have been captured, with `rest` still to be delivered. -/
def State.afterBytes (s : State) (rest : List Input) (out inb : List Byte) : State :=
  (State.loadWindow { s with input := rest } out inb).absorbOut.absorbIn

/-- Of an outbound sequence that begins with a frame, the buffer keeps the frame. -/
theorem absorbOut_of_take {v : Vector Byte 7} (h : v.toList = s.outSeq.take 7) :
    s.absorbOut = { s with ocnt := 7#3, obuf := v } := by
  have hcount : BitVec.ofNat 3 (min frameLen s.outSeq.length) = 7#3 :=
    BitVec.eq_of_toNat_eq ((OutTracked.fill v s.outSeq).count.trans (OutTracked.of_take h).count.symm)
  rw [State.absorbOut, hcount, fillFrom_of_take s.obuf h]

/-- A window recognised as a whole has its bytes captured and its record emitted. -/
theorem exec_recognizedWindow {f : BitVec 56} (hw : s.win = false) (hf : frameWord s.outSeq = some f)
    (hm : f.extractLsb' 48 8 = s.cfg.startMarker) :
    exec (frameInstr s.cfg (frameDir f) (frameArgument f) (frameCrc f)) s =
      .next (s.absorbOut.absorbIn.finishWindow (recognizedOutcome s.cfg (frameArgument f) s.inSeq)) := by
  rw [exec_frameInstr, absorbOut_of_take ((frameBuffer_toList hm).trans (frameWord_some hf)), State.runFrame, hw]
  rfl

theorem onReject_window (hw : s.win = false) {r : DecodeReject}
    (hr : r = .shortFrame ∨ r = .badMarker ∨ r = .badCommand) :
    s.onReject r = .next (s.absorbOut.absorbIn.finishWindow (none, rejectCause r)) := by
  rcases hr with rfl | rfl | rfl <;> simp only [State.onReject, hw] <;> rfl

/-- One step on a whole window between windows: all bytes captured, and the end with what `PARSE_WINDOW` gives. -/
theorem step_window {rest : List Input} (hw : s.win = false) (hin : s.input = .window out inb :: rest) :
    step s = .next ((s.afterBytes rest out inb).finishWindow (parseWindow s.cfg out inb)) := by
  have hfetch : fetch s = some (.frame out, State.loadWindow { s with input := rest } out inb) := fetch_window hin
  have hloaded : (State.loadWindow { s with input := rest } out inb).win = false := hw
  cases windowCase s.cfg out inb with
  | rejected hr hdecode hparse =>
    rw [step_of_reject hfetch hdecode, hparse]
    exact onReject_window hloaded hr
  | recognized hf hm hdecode hparse =>
    rw [step_of_decode hfetch hdecode, hparse]
    exact exec_recognizedWindow hloaded hf hm

/-! ### A window delivered event by event (R190) -/

theorem fillFrom_concat {n : Nat} (bs : List Byte) (b : Byte) : ∀ (v : Vector Byte n) (i : Nat),
    fillFrom v i (bs ++ [b]) = (fillFrom v i bs).setIfInBounds (i + bs.length) b := by
  induction bs with
  | nil => intro v i; rfl
  | cons x bs ih =>
    intro v i
    rw [List.cons_append, fillFrom, ih, fillFrom, List.length_cons, Nat.add_right_comm, Nat.add_assoc]

/-- The window that was opened at `s`, still open after the given bytes of its two channels. -/
def State.openAfter (s : State) (rest : List Input) (out inb : List Byte) : State :=
  { s.afterBytes rest out inb with
    st := windowFsm s.cfg (s.afterBytes rest out inb).ocnt (s.afterBytes rest out inb).obuf
    win := true
    recValid := false
    cause := .none }

theorem openWindow_eq_openAfter (s : State) (rest : List Input) :
    State.openWindow { s with input := rest } = s.openAfter rest [] [] := by
  simp [State.openWindow, State.openAfter, State.afterBytes, windowFsm, fillFrom, frameLen]

theorem openAfter_inv (s : State) (rest : List Input) (out inb : List Byte) : Inv (s.openAfter rest out inb) :=
  (inv_iff_of_open rfl).mpr ⟨.fill .., .fill .., rfl, rfl⟩

/-- The outbound registers of an open window are all that its outbound bytes decide. -/
theorem openAfter_out {rest : List Input} {out' : List Byte} {n : BitVec 3} {v : Vector Byte 7}
    (hn : BitVec.ofNat 3 (min frameLen out'.length) = n) (hv : fillFrom s.obuf 0 out' = v) :
    s.openAfter rest out' inb =
      { s.openAfter rest out inb with st := windowFsm s.cfg n v, ocnt := n, obuf := v, outSeq := out' } := by
  subst hn hv
  rfl

theorem openAfter_in {rest : List Input} {inb' : List Byte} {n : BitVec 4} {v : Vector Byte 4}
    (hn : BitVec.ofNat 4 (min s.cfg.payloadEnd inb'.length) = n)
    (hv : fillFrom s.ibuf 0 (inb'.drop s.cfg.payloadOffset.val) = v) :
    s.openAfter rest out inb' = { s.openAfter rest out inb with icnt := n, ibuf := v, inSeq := inb' } := by
  subst hn hv
  rfl

theorem OutTracked.ofNat_count {n : BitVec 3} {v : Vector Byte 7} {seq : List Byte} (h : OutTracked n v seq) :
    BitVec.ofNat 3 (min frameLen seq.length) = n := by
  rw [← h.count, BitVec.ofNat_toNat, BitVec.setWidth_eq]

theorem InTracked.ofNat_count {c : Config} {n : BitVec 4} {v : Vector Byte 4} {seq : List Byte}
    (h : InTracked c n v seq) : BitVec.ofNat 4 (min c.payloadEnd seq.length) = n := by
  rw [← h.count, BitVec.ofNat_toNat, BitVec.setWidth_eq]

/-- An outbound byte goes to the place of its index in the sequence, if the buffer has one. -/
theorem receiveOut_obuf (h : OutTracked s.ocnt s.obuf s.outSeq) (b : Byte) :
    (s.receiveOut b).obuf = s.obuf.setIfInBounds s.outSeq.length b := by
  have hcount : s.ocnt.toNat = min 7 s.outSeq.length := h.count
  rw [State.receiveOut]
  rcases s.captureOut_cases b with ⟨hn, heq⟩ | ⟨hn, heq⟩ | ⟨hn, heq⟩ <;> rw [heq]
  · rw [Vector.setIfInBounds_eq_of_size_le (by omega)]
  · rw [show s.outSeq.length = s.ocnt.toNat by omega]
  · rw [show s.outSeq.length = 6 by omega]

/-- An inbound byte goes to the place of its index in the payload, if it is there and the buffer has one. -/
theorem receiveIn_ibuf (h : InTracked s.cfg s.icnt s.ibuf s.inSeq) (b : Byte) :
    (s.receiveIn b).ibuf =
      if s.cfg.payloadOffset.val ≤ s.inSeq.length then
        s.ibuf.setIfInBounds (s.inSeq.length - s.cfg.payloadOffset.val) b
      else s.ibuf := by
  have hcount := h.count
  have hend : s.cfg.payloadEnd = s.cfg.payloadOffset.val + 4 := rfl
  rw [State.receiveIn]
  rcases s.captureIn_cases b with ⟨hn, heq⟩ | ⟨hlo, hhi, heq⟩ | ⟨hn, heq⟩ <;> rw [heq]
  · rw [if_neg (by omega)]
  · rw [if_pos (by omega), show s.inSeq.length = s.icnt.toNat by omega]
  · rw [if_pos (by omega), Vector.setIfInBounds_eq_of_size_le (by omega)]

theorem fillFrom_drop_concat {n : Nat} (v : Vector Byte n) (k : Nat) (bs : List Byte) (b : Byte) :
    fillFrom v 0 ((bs ++ [b]).drop k) =
      if k ≤ bs.length then (fillFrom v 0 (bs.drop k)).setIfInBounds (bs.length - k) b
      else fillFrom v 0 (bs.drop k) := by
  split
  case isTrue hk => rw [List.drop_append_of_le_length hk, fillFrom_concat, Nat.zero_add, List.length_drop]
  case isFalse hk =>
    rw [List.drop_eq_nil_of_le (by rw [List.length_append, List.length_singleton]; omega),
      List.drop_eq_nil_of_le (by omega)]

theorem receiveOut_openAfter (s : State) (rest : List Input) (out inb : List Byte) (b : Byte) :
    (s.openAfter rest out inb).receiveOut b = s.openAfter rest (out ++ [b]) inb := by
  have hinv := openAfter_inv s rest out inb
  have hbuf := receiveOut_obuf hinv.outTracked b
  have hinv' := hinv.receiveOut rfl b
  obtain ⟨st, n, v, heq⟩ := (s.openAfter rest out inb).receiveOut_frame b
  rw [heq] at hbuf hinv' ⊢
  obtain ⟨hout, _, _, hst⟩ := (inv_iff_of_open rfl).mp hinv'
  have hfill : fillFrom s.obuf 0 (out ++ [b]) = v := by
    rw [fillFrom_concat, Nat.zero_add]
    exact hbuf.symm
  rw [show st = windowFsm s.cfg n v from hst]
  exact (openAfter_out hout.ofNat_count hfill).symm

theorem receiveIn_openAfter (s : State) (rest : List Input) (out inb : List Byte) (b : Byte) :
    (s.openAfter rest out inb).receiveIn b = s.openAfter rest out (inb ++ [b]) := by
  have hinv := openAfter_inv s rest out inb
  have hfill : fillFrom s.ibuf 0 ((inb ++ [b]).drop s.cfg.payloadOffset.val) =
      ((s.openAfter rest out inb).receiveIn b).ibuf :=
    (fillFrom_drop_concat ..).trans (receiveIn_ibuf hinv.inTracked b).symm
  have hcount : BitVec.ofNat 4 (min s.cfg.payloadEnd (inb ++ [b]).length) =
      ((s.openAfter rest out inb).receiveIn b).icnt := (hinv.receiveIn rfl b).inTracked.ofNat_count
  exact (openAfter_in hcount hfill).symm

/-- The end of the window overwrites all that its being open has set. -/
theorem finishWindow_openAfter (s : State) (rest : List Input) (out inb : List Byte)
    (outcome : Option Transaction × Cause) :
    (s.openAfter rest out inb).finishWindow outcome = (s.afterBytes rest out inb).finishWindow outcome := by
  obtain ⟨_ | r, k⟩ := outcome
  · rfl
  · rfl

theorem step_openAfter_byte (s : State) (b : BusByte) (rest : List Input) (out inb : List Byte) :
    step (s.openAfter (b.input :: rest) out inb) =
      .next (s.openAfter rest (out ++ outBytes [b]) (inb ++ inBytes [b])) := by
  cases b with
  | out b =>
    rw [step_event (e := packEvent 1#2 b) rfl, decodeEvent_packEvent, inBytes, inBytes, List.append_nil]
    exact (exec_outByte_of_open rfl b).trans (congrArg _ (receiveOut_openAfter s rest out inb b))
  | inb b =>
    rw [step_event (e := packEvent 2#2 b) rfl, decodeEvent_packEvent, outBytes, outBytes, List.append_nil]
    exact (exec_inByte_of_open rfl b).trans (congrArg _ (receiveIn_openAfter s rest out inb b))

/-- The bytes of a window, in any interleaving, one step each. -/
theorem run_openAfter_bytes (s : State) (bytes : List BusByte) (rest : List Input) (k : Nat) (out inb : List Byte) :
    Host.Core.run Sys2Proof.core (bytes.length + k) (s.openAfter (bytes.map BusByte.input ++ rest) out inb) =
      Host.Core.run Sys2Proof.core k (s.openAfter rest (out ++ outBytes bytes) (inb ++ inBytes bytes)) := by
  induction bytes generalizing out inb with
  | nil => rw [List.length_nil, Nat.zero_add, outBytes, inBytes, List.append_nil, List.append_nil]; rfl
  | cons b bytes ih =>
    rw [List.length_cons, Nat.add_right_comm, List.map_cons, List.cons_append,
      run_succ_of_step (step_openAfter_byte ..), ih, List.append_assoc, List.append_assoc, ← outBytes_cons,
      ← inBytes_cons]

/-- The events of a window, from any state between windows. -/
theorem run_windowEvents_eq (bytes : List BusByte) (hw : s.win = false) :
    Host.Core.run Sys2Proof.core (bytes.length + 2) ({ s with input := windowEvents bytes } : State) =
      .next ((s.afterBytes [] (outBytes bytes) (inBytes bytes)).finishWindow
        (parseWindow s.cfg (outBytes bytes) (inBytes bytes))) := by
  have hstart : step { s with input := windowEvents bytes } =
      .next (s.openAfter (bytes.map BusByte.input ++ [.event (packEvent 3#2 0#8)]) [] []) := by
    rw [step_event rfl, decodeEvent_packEvent, ← openWindow_eq_openAfter]
    exact exec_windowStart_of_closed hw
  have hend : step (s.openAfter [.event (packEvent 3#2 0#8)] (outBytes bytes) (inBytes bytes)) =
      .next ((s.openAfter [] (outBytes bytes) (inBytes bytes)).finishWindow
        (parseWindow s.cfg (outBytes bytes) (inBytes bytes))) := by
    rw [step_event rfl, decodeEvent_packEvent]
    exact (exec_windowEnd_of_open rfl).trans ((openAfter_inv s [] _ _).closeWindow_eq rfl)
  rw [run_succ_of_step hstart, run_openAfter_bytes, List.nil_append, List.nil_append, run_succ_of_step hend,
    finishWindow_openAfter]
  rfl

/-! ### The outputs between windows -/

theorem outputCorrect_of_open (hw : s.win = true) : OutputCorrect s := fun h => by rw [hw] at h; cases h

theorem outputCorrect_of_windowEnd (h : Inv s) (hw : s.win = true) (hclose : s.closeWindow = .next t) :
    OutputCorrect t := by
  rw [h.closeWindow_eq hw] at hclose
  cases hclose
  exact outputCorrect_finishWindow s

theorem outputCorrect_of_window {rest : List Input} (hw : s.win = false) (hin : s.input = .window out inb :: rest)
    (hstep : step s = .next t) : OutputCorrect t := by
  rw [step_window hw hin] at hstep
  cases hstep
  exact outputCorrect_finishWindow (s.afterBytes rest out inb)

end Sys2Proof.Machine
end

section
/-! CERTIFICATES. The statements about the assembler: its events, whole windows and PARSE_WINDOW (spec/43_assembler.md). -/

namespace Sys2Proof.Machine

open Sys2Proof

/-- Settles O45, by the cases of a step: a window's end has the outcome of its bytes, and between windows only scans
and idling leave the last one in place. -/
theorem outputIsParseWindowOfLastWindow : Obligations.OutputIsParseWindowOfLastWindow := by
  intro s t h ho hstep
  refine ⟨stepKeepsInvariant s t h hstep, ?_⟩
  cases step_effect hstep with
  | windowStart => exact outputCorrect_of_open rfl
  | outByte _ _ hw => exact outputCorrect_of_open ((State.receiveOut_win ..).trans hw)
  | inByte _ _ hw => exact outputCorrect_of_open hw
  | @windowEnd _ rest _ _ _ hw hclose => exact outputCorrect_of_windowEnd (h.of_delivery s.irqOut rest) hw hclose
  | frame hin _ hrun =>
    obtain ⟨hclosed, _⟩ := State.runFrame_next hrun
    have hw : s.win = false := hclosed
    exact outputCorrect_of_window hw hin hstep
  | badFrame hin hw => exact outputCorrect_of_window hw hin hstep
  | scan => exact ho
  | reset => exact fun _ hst => absurd rfl hst
  | idle => exact ho

/-- Settles O22, by the value of `win`. -/
theorem windowStartResult : Obligations.WindowStartResult := by
  refine ⟨fun s hw => ⟨[], [], exec_windowStart_of_closed hw⟩, fun s hw t => ?refused, fun c d => ?word⟩
  case refused => rw [exec_windowStart_of_open hw]; nofun
  case word => exact congrArg Except.ok (decodeEvent_packEvent 0#2 d)

/-- Settles O23, by the number of outbound bytes seen; the frame evaluation reads the first six of them. -/
theorem outByteResult : Obligations.OutByteResult := by
  refine fun s b hw => ⟨fun k hk => ?stored, fun hn => ?evaluated, fun hn => ?ignored⟩
  case stored => rw [exec_outByte_of_open hw, receiveOut_before_seventh hk k.isLt]
  case evaluated =>
    refine ⟨frameState s.cfg (s.obuf.set 6 b), ?_, ?rejected, ?pending, ?_⟩
    case rejected => simp [frameState_eq_rejected_iff]
    case pending =>
      rw [frameState_eq_payloadPending_iff, irqKind_ne_none_iff, decodeArgument_obufArgument, argumentFields_append]
      simp
    · rw [exec_outByte_of_open hw, receiveOut_seventh hn]
    · rcases frameState_cases s.cfg (s.obuf.set 6 b) with h | h | h <;> simp [h]
  case ignored => rw [exec_outByte_of_open hw, receiveOut_after_seventh hn]

/-- Settles O24, by the number of inbound bytes seen. -/
theorem inByteResult : Obligations.InByteResult := by
  refine fun s b hw => ⟨fun hn => ?counted, fun j hn => ?stored, fun hn => ?ignored⟩ <;> rw [exec_inByte_of_open hw]
  case counted => rw [receiveIn_before_payload hn]
  case stored => rw [receiveIn_payload hn j.isLt]
  case ignored => rw [receiveIn_after_payload hn]

/-- Settles O25, by the state of the state machine. -/
theorem windowEndRejects : Obligations.WindowEndRejects := by
  refine fun s hw => ⟨fun hst => ?short, fun hst hm => ?marker, fun hst hm => ?command, fun hst => ?complete⟩ <;>
    rw [exec_windowEnd_of_open hw]
  case short => rw [closeWindow_awaiting hst]; rfl
  case marker => rw [closeWindow_rejected hst, if_pos hm, takeMalformed_of_rejected hst]
  case command => rw [closeWindow_rejected hst, if_neg (not_not.mpr hm), takeMalformed_of_rejected hst]
  case complete => exact closeWindow_complete hst

/-- Settles O26: the buffered argument bytes are those of `t`, and the buffered payload is little-endian. -/
theorem windowEndEmits : Obligations.WindowEndEmits := by
  intro s t hw ht r P emitted
  have hargument : decodeArgument (obufArgument s.obuf) = t := by
    rw [decodeArgument_obufArgument, ← ht, argumentFields_argumentBits]
  have hpayload : decodePayload (ibufPayload s.ibuf) = P :=
    (decodePayload_eq_argumentWord _).trans (argumentWord_eq_append ..)
  rw [exec_windowEnd_of_open hw]
  refine ⟨fun hst => ?recognized, fun hst hn => ?whole, fun hst hn => ?truncated⟩
  case recognized => rw [closeWindow_frameRecognized hst, hargument]; rfl
  case whole => rw [closeWindow_payloadWhole hst hn, hargument, hpayload]; rfl
  case truncated => rw [closeWindow_payloadTruncated hst hn, hargument]; rfl

/-- Settles O28: neither kind takes a payload. -/
theorem cardFramesEmit : Obligations.CardFramesEmit := by
  intro s dir crc bm inc addr cnt hw
  exact ⟨State.runFrame_eq_of_noPayload hw, State.runFrame_eq_of_noPayload hw⟩

/-- Settles O29: none of the four rows takes a payload. -/
theorem cmd53FramesEmit : Obligations.Cmd53FramesEmit := by
  intro s dir crc fn bm inc addr cnt hw
  exact ⟨State.runFrame_eq_of_noPayload hw, State.runFrame_eq_of_noPayload hw, State.runFrame_eq_of_noPayload hw,
    State.runFrame_eq_of_noPayload hw⟩

/-- Settles O31: neither kind takes a payload. -/
theorem bulkFramesEmit : Obligations.BulkFramesEmit := by
  intro s dir crc bm inc addr cnt hw
  exact ⟨State.runFrame_eq_of_noPayload hw, State.runFrame_eq_of_noPayload hw⟩

/-- Settles O30: the four named bytes are the payload, and a shorter sequence has none. -/
theorem irqFramesEmit : Obligations.IrqFramesEmit := by
  intro s dir crc fn bm inc cnt hw rd wr
  refine ⟨fun b0 b1 b2 b3 h0 h1 h2 h3 => ?whole, fun hlen => ?short⟩
  case whole =>
    have hbytes := payload_bytes_of_getElem? h0 h1 h2 h3
    exact ⟨State.runFrame_eq_afterFrame hw (windowPayload_whole nofun hbytes),
      State.runFrame_eq_afterFrame hw (windowPayload_whole nofun hbytes)⟩
  case short =>
    exact ⟨State.runFrame_eq_afterFrame hw (windowPayload_short nofun hlen),
      State.runFrame_eq_afterFrame hw (windowPayload_short nofun hlen)⟩

/-- Settles O33: the tests on the frame word's first two bytes; the seventh byte is never read (O39). -/
theorem parseWindowCases : Obligations.ParseWindowCases := by
  refine fun c out inb => ⟨parseWindow_short, fun m d b2 b3 b4 b5 b6 rest hout => ?whole⟩
  subst hout
  obtain ⟨f, hf, rfl, rfl⟩ :=
    frameWord_cons_cons (m := m) (d := d) (rest := b2 :: b3 :: b4 :: b5 :: b6 :: rest) (by simp)
  refine ⟨parseWindow_badMarker hf, parseWindow_badCommand hf, fun hm hd =>
    ⟨⟨_, _, parseWindow_recognized hf hm hd⟩, ?_⟩⟩
  exact fun crc => untestedBytesNeverMatter c _ _ inb inb (by simp) (by simp) rfl rfl

/-- Settles O34: a record's payload is what its kind takes from the inbound sequence. -/
theorem payloadIsWholeOrAbsent : Obligations.PayloadIsWholeOrAbsent := by
  refine ⟨fun c out inb r k h => ?_, rfl⟩
  obtain ⟨t, hrecord⟩ := parseWindow_eq_some h
  obtain ⟨hr, hk⟩ := Prod.mk.inj hrecord
  cases hr
  have hirq : (classifiedRecord c t (windowPayload c (irqKind c t.function t.address t.isWrite) inb).1).kind.irq =
      irqKind c t.function t.address t.isWrite := irq_txnKind
  rw [hirq, hk]
  refine ⟨fun hnone => ?otherKind, fun hne hlen => ?truncated, fun hne hlen => ?whole⟩
  case otherKind => rw [hnone]; exact ⟨rfl, rfl⟩
  case truncated => rw [windowPayload_short hne hlen]; exact ⟨rfl, rfl⟩
  case whole =>
    refine ⟨?cause, fun b0 b1 b2 b3 hbytes => ?payload⟩
    case cause =>
      obtain ⟨b0, b1, b2, b3, hbytes⟩ := exists_payload_bytes hlen
      rw [windowPayload_whole hne hbytes]
    case payload =>
      rw [windowPayload_whole hne hbytes]
      refine ⟨_, rfl, rfl, rfl, activeInterruptNames_irqPayload c _, fun hzero => ?_⟩
      rw [activeInterruptNames_irqPayload]
      exact decodeIrqBits_eq_nil hzero

/-- Settles O35: the step's state, its outcome and what the end of a window leaves alone. -/
theorem wholeWindowStepIsParseWindow : Obligations.WholeWindowStepIsParseWindow := by
  intro s out inb rest hw hin
  have houtcome := hasOutcome_finishWindow (s.afterBytes rest out inb) (parseWindow s.cfg out inb)
  obtain ⟨st, v, r, k, heq⟩ := (s.afterBytes rest out inb).finishWindow_frame (parseWindow s.cfg out inb)
  refine ⟨_, step_window hw hin, houtcome.1, ?_, ?_⟩
  · rw [State.isSome_output]
    exact houtcome.st_eq
  · rw [heq]
    exact ⟨rfl, rfl, rfl, rfl, rfl, rfl, rfl⟩

/-- Settles O36: the run of the events has the outcome of PARSE_WINDOW, and `st` tells whether that is a record. -/
theorem eventsAgreeWithParseWindow : Obligations.EventsAgreeWithParseWindow := by
  intro s bytes hw
  obtain ⟨t, hrun, houtcome⟩ := run_windowEvents bytes hw
  refine ⟨t, hrun, houtcome.1, ?_⟩
  rw [houtcome.st_eq]
  cases t.recValid <;> simp

/-- Settles O37: both forms capture the same bytes and end with the same outcome. -/
theorem wholeWindowStepEqualsItsEvents : Obligations.WholeWindowStepEqualsItsEvents := by
  intro s bytes hw
  exact ⟨_, run_windowEvents_eq bytes hw, step_window (s := { s with input := [_] }) hw rfl⟩

/-- Settles O48, by the cases of a step: only the end of a recognised window sets `rec_valid`. -/
theorem recordAppearsOnlyAtWindowEnd : Obligations.RecordAppearsOnlyAtWindowEnd := by
  intro s t hstep hbefore hafter
  have hkept : s.recValid ≠ true := by simp [hbefore]
  cases step_effect hstep with
  | windowStart => cases hafter
  | outByte => exact absurd ((State.receiveOut_recValid ..).symm.trans hafter) hkept
  | inByte => exact absurd hafter hkept
  | windowEnd hin he _ hclose =>
    rcases State.closeWindow_next hclose with ⟨_, rfl⟩ | ⟨_, rfl⟩ | ⟨_, rfl⟩
    · cases hafter
    · cases hafter
    · exact ⟨.inl ⟨_, _, hin, he⟩, rfl, rfl⟩
  | frame hin _ hrun =>
    obtain ⟨_, rfl⟩ := State.runFrame_next hrun
    exact ⟨.inr ⟨_, _, _, hin⟩, rfl, rfl⟩
  | badFrame => cases hafter
  | scan => exact absurd hafter hkept
  | reset => cases hafter
  | idle => exact absurd hafter hkept

/-- Settles O41, by whether a window is open; in one, the outbound bytes seen decide `st`. -/
theorem transitionTable : Obligations.TransitionTable := by
  refine fun s h => ⟨fun hw => ⟨h.st_of_closed hw, ⟨_, exec_windowStart_of_closed hw, rfl⟩, fun t b => ?refused⟩,
    fun hw => ⟨h.st_ne_complete hw, h.awaitingFrame_iff hw, fun t => ?noStart, fun b => ?outByte, fun b => ?inByte,
      ?windowEnd⟩⟩
  case refused =>
    rw [exec_outByte_of_closed hw, exec_inByte_of_closed hw, exec_windowEnd_of_closed hw]
    exact ⟨nofun, nofun, nofun⟩
  case noStart => rw [exec_windowStart_of_open hw]; nofun
  case outByte =>
    refine ⟨_, exec_outByte_of_open hw b, fun hn => ?early, fun hn => ?seventh, fun hn => ?late⟩
    case early =>
      rw [receiveOut_before_seventh rfl (by omega)]
      exact (h.awaitingFrame_iff hw).mpr (by omega)
    case seventh =>
      rw [receiveOut_seventh hn]
      rcases frameState_cases s.cfg (s.obuf.set 6 b) with hst | hst | hst <;> simp [hst]
    case late => rw [receiveOut_after_seventh hn]
  case inByte => exact ⟨_, exec_inByte_of_open hw b, rfl⟩
  case windowEnd =>
    have hclose := h.closeWindow_eq hw
    refine ⟨_, (exec_windowEnd_of_open hw).trans hclose, ?_⟩
    rcases st_of_closeWindow hclose with ⟨hst | hst, ht⟩ | ⟨hst | hst, ht⟩ <;> simp [hst, ht]

/-- Settles O42: a rejected window has seen its seven bytes, so that none is evaluated any more. -/
theorem rejectedIsAbsorbing : Obligations.RejectedIsAbsorbing := by
  intro s h hst
  have hfull (hw : s.win = true) : s.ocnt.toNat = 7 := h.rejected hst hw
  refine ⟨fun hw => ⟨fun b => ?outByte, fun b => ?inByte, ?windowEnd⟩, fun e t he hne => ?leaves⟩
  case outByte => exact ⟨_, by rw [exec_outByte_of_open hw, receiveOut_after_seventh (hfull hw)]⟩
  case inByte => exact ⟨_, _, _, exec_inByte_of_open hw b⟩
  case windowEnd => exact ⟨_, (exec_windowEnd_of_open hw).trans (closeWindow_rejected hst), rfl⟩
  case leaves =>
    rcases exec_decodeEvent_next he with ⟨hi, _⟩ | ⟨b, _, hw, rfl⟩ | ⟨b, _, _, rfl⟩ | ⟨_, _, hclose⟩
    · exact hi
    · rw [receiveOut_after_seventh (hfull hw)] at hne
      exact absurd hst hne
    · exact absurd hst hne
    · cases (closeWindow_rejected hst).symm.trans hclose
      exact absurd rfl hne

end Sys2Proof.Machine
end

section
/-! SUPPORT. The display strings: the hexadecimal text of an address, digit by digit, and the template of each kind of record (spec/44_display.md R220 to R227). -/

namespace Sys2Proof.Machine

open Sys2Proof

/-! ### Hexadecimal digits and the number they stand for (R227) -/

/-- The number that hexadecimal digits stand for, the most significant digit first. -/
def hexValue (digits : List (BitVec 4)) : Nat := digits.foldl (fun v d => 16 * v + d.toNat) 0

theorem hexValue_replicate_zero_append (n : Nat) (digits : List (BitVec 4)) :
    hexValue (List.replicate n 0#4 ++ digits) = hexValue digits := by
  induction n with
  | zero => rfl
  | succ n ih => exact ih

theorem hexValue_dropWhile_zero (digits : List (BitVec 4)) :
    hexValue (digits.dropWhile (· == 0#4)) = hexValue digits := by
  induction digits with
  | nil => rfl
  | cons d ds ih =>
    by_cases hd : d = 0#4
    · rw [hd, List.dropWhile_cons_of_pos rfl, ih]
      rfl
    · rw [List.dropWhile_cons_of_neg (by simpa using hd)]

theorem head?_dropWhile_zero_ne (digits : List (BitVec 4)) :
    (digits.dropWhile (· == 0#4)).head? ≠ some 0#4 := fun h => by
  have hhead := List.head?_dropWhile_not (· == 0#4) digits
  rw [h] at hhead
  cases hhead

/-- One digit's text is the entry of its value in the list of the sixteen digits. -/
theorem hexDigit_eq_getElem? (d : BitVec 4) :
    some (hexDigit true d) =
        ["0", "1", "2", "3", "4", "5", "6", "7", "8", "9", "A", "B", "C", "D", "E", "F"][d.toNat]?
      ∧ some (hexDigit false d) =
        ["0", "1", "2", "3", "4", "5", "6", "7", "8", "9", "a", "b", "c", "d", "e", "f"][d.toNat]? := by
  decide +revert

@[simp] theorem length_hexDigit (capitals : Bool) (d : BitVec 4) : (hexDigit capitals d).length = 1 := by
  decide +revert

theorem length_hex8 (capitals : Bool) (v : BitVec 32) : (hex8 capitals v).length = 8 := by
  simp only [hex8, String.length_append, length_hexDigit]

/-! ### The digits of an address (R223, R227) -/

/-- The five hexadecimal digits of the 17 bits of an address, leading zeros included. -/
def addressNibbles (a : BitVec 17) : List (BitVec 4) :=
  [a.extractLsb' 16 4, a.extractLsb' 12 4, a.extractLsb' 8 4, a.extractLsb' 4 4, a.extractLsb' 0 4]

theorem addressDigits_eq (least : Nat) (a : BitVec 17) :
    addressDigits least a =
      List.replicate (max 1 least - ((addressNibbles a).dropWhile (· == 0#4)).length) 0#4
        ++ (addressNibbles a).dropWhile (· == 0#4) := rfl

theorem hexValue_addressNibbles (a : BitVec 17) : hexValue (addressNibbles a) = a.toNat := by
  simp only [hexValue, addressNibbles, List.foldl, BitVec.extractLsb'_toNat, Nat.shiftRight_eq_div_pow]
  omega

theorem hexValue_addressDigits (least : Nat) (a : BitVec 17) : hexValue (addressDigits least a) = a.toNat := by
  rw [addressDigits_eq, hexValue_replicate_zero_append, hexValue_dropWhile_zero, hexValue_addressNibbles]

theorem le_length_addressDigits (least : Nat) (a : BitVec 17) : max 1 least ≤ (addressDigits least a).length := by
  rw [addressDigits_eq, List.length_append, List.length_replicate]
  omega

/-- More digits than the padding asks for: none of them is padding. -/
theorem addressDigits_of_padding_lt {least : Nat} {a : BitVec 17} (h : max 1 least < (addressDigits least a).length) :
    addressDigits least a = (addressNibbles a).dropWhile (· == 0#4) := by
  rw [addressDigits_eq, List.length_append, List.length_replicate] at h
  rw [addressDigits_eq, Nat.sub_eq_zero_of_le (by omega), List.replicate_zero, List.nil_append]

/-- `0x06050` has four digits, so no style pads it (R223). -/
theorem addressDigits_irqRead (least : Fin 5) : addressDigits least.val 0x06050#17 = [6#4, 0#4, 5#4, 0#4] := by
  decide +revert

/-- None of its digits is a letter, so no style's choice of letters shows. -/
theorem addressText_irqRead (y : RenderStyle) : addressText y 0x06050#17 = "0x6050" := by
  rw [addressText, addressDigits_irqRead]
  rfl

/-! ### The names and the templates, by the record's kind (R220 to R226) -/

section
variable {c : Config} {y : RenderStyle} {r : Transaction}

theorem namesText_absent (h : r.payload = none) : namesText c y r = y.absentNames := by
  rw [namesText, h]

theorem namesText_none {p : IrqPayload} (h : r.payload = some p) (hnames : decodeIrqBits c p.activeMask = []) :
    namesText c y r = y.noneMarker := by
  simp only [namesText, activeInterruptNames, h, hnames]

theorem namesText_names {p : IrqPayload} (h : r.payload = some p) (hnames : decodeIrqBits c p.activeMask ≠ []) :
    namesText c y r = y.separator.intercalate (decodeIrqBits c p.activeMask) := by
  cases hn : decodeIrqBits c p.activeMask with
  | nil => exact absurd hn hnames
  | cons n ns => simp only [namesText, activeInterruptNames, h, hn]

theorem render_card (h : r.kind = .cardRd ∨ r.kind = .cardWr) : render c y r = renderCard y r := by
  rcases h with h | h <;> rw [render, h]

theorem render_cmd53 (h : r.kind = .cmd53Rd ∨ r.kind = .cmd53Wr) : render c y r = renderCmd53 y r := by
  rcases h with h | h <;> rw [render, h]

theorem render_irqRd (h : r.kind = .irqRd) : render c y r = renderIrqRd c y r := by
  rw [render, h]

theorem render_irqClr (h : r.kind = .irqClr) : render c y r = renderIrqClr c y r := by
  rw [render, h]

theorem render_bulk (h : r.kind = .bulkRd ∨ r.kind = .bulkWr) : render c y r = renderBulk c y r := by
  rcases h with h | h <;> rw [render, h]

/-- The interrupt-read template with its address text given (R223). -/
theorem renderIrqRd_of_addressText {text : String} (h : addressText y r.argument.address = text) :
    renderIrqRd c y r = "IRQ RD: " ++ y.label r ++ " | " ++ text ++ " [" ++ namesText c y r ++ "]" := by
  subst h
  rfl

/-- The interrupt-clear template with its value given (R224). -/
theorem renderIrqClr_of_valueText {value : String} (h : valueText y r = value) :
    renderIrqClr c y r = "IRQ CLR: " ++ y.label r ++ " | " ++ addressText y r.argument.address ++ " (val:" ++ value
      ++ ") [" ++ namesText c y r ++ "]" := by
  subst h
  rfl

/-- The bulk template with its number of bytes given (R225). -/
theorem renderBulk_of_displaySize {n : Nat} (h : (displaySize c r.argument.blockMode r.argument.count).toNat = n) :
    renderBulk c y r = "BULK " ++ rdWr r.argument ++ ": " ++ y.label r ++ " | " ++ addressText y r.argument.address
      ++ " [" ++ Nat.repr n ++ " bytes] " ++ modeText r.argument := by
  subst h
  rfl

/-- The interrupt-read template at the address it is pinned for (R223). -/
theorem renderIrqRd_irqRead (h : r.argument.address = 0x06050#17) :
    renderIrqRd c y r = "IRQ RD: " ++ y.label r ++ " | 0x6050" ++ (" [" ++ namesText c y r ++ "]") := by
  have hbar : " | 0x6050" = " | " ++ "0x6050" := rfl
  rw [renderIrqRd_of_addressText (h ▸ addressText_irqRead y), hbar]
  simp only [String.append_assoc]

theorem valueText_absent (h : r.payload = none) : valueText y r = y.absentValue := by
  rw [valueText, h]

theorem valueText_payload {p : IrqPayload} (h : r.payload = some p) :
    valueText y r = (if y.valueLead then "0x" else "") ++ hex8 y.capitals p.decodedPayload := by
  rw [valueText, h]
  rfl

/-- The displayed number of bytes, by the block mode (R149, R225). -/
theorem toNat_displaySize (hsize : c.blockSize = 512) (bm : Bool) (n : BitVec 9) :
    (displaySize c bm n).toNat = if bm then n.toNat * 512 else n.toNat := by
  obtain ⟨_, hnumber, _⟩ := displaySizeInBytes c hsize
  rw [hnumber, hsize]

end

end Sys2Proof.Machine
end

section
/-! CERTIFICATES. The statements about the display strings (spec/44_display.md). -/

namespace Sys2Proof.Machine

open Sys2Proof

/-- Settles O54: padding and dropped zeros leave the number the five digits stand for. -/
theorem addressTextIsHexadecimal : Obligations.AddressTextIsHexadecimal := by
  refine ⟨fun least a => ⟨hexValue_addressDigits least a, le_length_addressDigits least a, fun hmore => ?noZero⟩,
    hexDigit_eq_getElem?, fun _ _ => ⟨rfl, rfl⟩, addressText_irqRead⟩
  case noZero =>
    rw [addressDigits_of_padding_lt hmore]
    exact head?_dropWhile_zero_ne _

/-- Settles O53: the kind selects the template, and the payload the value and the names in it. -/
theorem displayTemplates : Obligations.DisplayTemplates := by
  intro c y r hsize
  refine ⟨render_card, render_cmd53, fun hk => ⟨render_irqRd hk, fun ha => ?pinned⟩,
    fun hk p hp => ⟨length_hex8 _ _, ?value⟩, fun hk hp => ?noValue, fun hk => ?bulk, namesText_absent,
    fun _ => namesText_none, fun _ => namesText_names⟩
  case pinned => rw [render_irqRd hk, renderIrqRd_irqRead ha]
  case value => exact (render_irqClr hk).trans (renderIrqClr_of_valueText (valueText_payload hp))
  case noValue => exact (render_irqClr hk).trans (renderIrqClr_of_valueText (valueText_absent hp))
  case bulk => exact (render_bulk hk).trans (renderBulk_of_displaySize (toNat_displaySize hsize _ _))

end Sys2Proof.Machine
end

section
/-! SUPPORT. PARSE_WINDOW under other label and name tables: the tests, the classifier and the payload read none of them, and a record reads the two label tables for its labels alone (spec/60_exceptions.md R245; spec/41_classifier.md R147). -/

namespace Sys2Proof

/-- The configuration with its three tables replaced (R9). -/
def Config.withTables (c : Config) (funcs : List (BitVec 3 × String)) (addrs : List (BitVec 17 × String))
    (names : List (Nat × String)) : Config :=
  { c with funcLabel := funcs, addrLabel := addrs, irqName := names }

/-- The record with its two labels looked up in the given tables (R147). -/
def Transaction.relabel (funcs : List (BitVec 3 × String)) (addrs : List (BitVec 17 × String)) (r : Transaction) :
    Transaction :=
  { r with functionLabel := funcs.lookup r.argument.function, addressLabel := addrs.lookup r.argument.address }

end Sys2Proof

namespace Sys2Proof.Machine

open Sys2Proof

variable (c : Config) (funcs : List (BitVec 3 × String)) (addrs : List (BitVec 17 × String))
  (names : List (Nat × String))

/-! ### What reads no table -/

@[simp] theorem frameCheck_withTables (m d : Byte) :
    frameCheck (c.withTables funcs addrs names) m d = frameCheck c m d := rfl

@[simp] theorem irqKind_withTables (fn : BitVec 3) (addr : BitVec 17) (w : Bool) :
    irqKind (c.withTables funcs addrs names) fn addr w = irqKind c fn addr w := rfl

@[simp] theorem windowPayload_withTables (irq : IrqKind) (inb : List Byte) :
    windowPayload (c.withTables funcs addrs names) irq inb = windowPayload c irq inb := rfl

/-! ### What reads the label tables -/

/-- Of a record's fields the two labels alone are lookups in a table; category and kind are the classifier's (R181). -/
@[simp] theorem classifiedRecord_withTables (t : Argument) (p : Option IrqPayload) :
    classifiedRecord (c.withTables funcs addrs names) t p = (classifiedRecord c t p).relabel funcs addrs := rfl

theorem recognizedOutcome_withTables (t : Argument) (inb : List Byte) :
    recognizedOutcome (c.withTables funcs addrs names) t inb =
      (recognizedOutcome c t inb).map (Option.map (Transaction.relabel funcs addrs)) id := by
  simp [recognizedOutcome]

/-- Other tables relabel the record of a window, if it emits one, and keep its cause. -/
theorem parseWindow_withTables (out inb : List Byte) :
    parseWindow (c.withTables funcs addrs names) out inb =
      (parseWindow c out inb).map (Option.map (Transaction.relabel funcs addrs)) id := by
  cases hf : frameWord out with
  | none =>
    have hshort := length_of_frameWord_eq_none hf
    rw [parseWindow_short hshort, parseWindow_short hshort]
    rfl
  | some f =>
    rw [parseWindow_of_frameWord hf, parseWindow_of_frameWord hf, frameCheck_withTables]
    cases frameCheck c (f.extractLsb' 48 8) (frameDir f) with
    | badMarker => rfl
    | badCommand => rfl
    | ok => exact recognizedOutcome_withTables c funcs addrs names (frameArgument f) inb

end Sys2Proof.Machine
end

section
/-! CERTIFICATES. The statements about the notes (spec/60_exceptions.md). -/

namespace Sys2Proof.Machine

open Sys2Proof

/-- Settles O40: a window's outcome under other tables is its outcome relabelled. -/
theorem labelsNeverAffectClassification : Obligations.LabelsNeverAffectClassification := by
  intro c funcs addrs names out inb c'
  have houtcome : parseWindow c' out inb =
      (parseWindow c out inb).map (Option.map (Transaction.relabel funcs addrs)) id :=
    parseWindow_withTables c funcs addrs names out inb
  rw [houtcome]
  exact ⟨rfl, rfl⟩

end Sys2Proof.Machine
end

section
/-! SUPPORT. Reset as an input, the refusal of a whole window inside another one, and the inputs that keep the interface contract, each with the step it allows (spec/70_reset_and_hazards.md R280, R281, R290). -/

namespace Sys2Proof.Machine

open Sys2Proof

variable {s t : State} {out inb : List Byte} {rest : List Input}

/-! ### Reset (R280, R281) -/

theorem step_reset (hin : s.input = .reset :: rest) : step s = .next { s.resetRegisters with input := rest } := by
  simp only [step, fetch, hin, withoutWord_reset hin]

/-! ### A whole window while another one is open (R290) -/

/-- A frame row runs its frame. -/
theorem exec_eq_runFrame {i : Instr} {k : Kind} (h : instrKind i = some k) (s : State) :
    ∃ dir a crc cat irq, exec i s = s.runFrame dir a crc cat k irq := by
  -- only the ten frame rows have a kind
  cases i <;> cases h
  all_goals exact ⟨_, _, _, _, _, rfl⟩

theorem State.runFrame_of_open (hw : s.win = true) (dir : Byte) (a : Argument) (crc : Byte) (cat : Category) (k : Kind)
    (irq : IrqKind) : s.runFrame dir a crc cat k irq = .refused .windowInWindow := by
  rw [State.runFrame, if_pos hw]

theorem exec_frameRow_of_open {i : Instr} (hw : s.win = true) (hi : (instrKind i).isSome = true) :
    exec i s = .refused .windowInWindow := by
  obtain ⟨k, hk⟩ := Option.isSome_iff_exists.mp hi
  obtain ⟨dir, a, crc, cat, irq, hrun⟩ := exec_eq_runFrame hk s
  rw [hrun, State.runFrame_of_open hw]

theorem onReject_window_of_open (hw : s.win = true) {r : DecodeReject}
    (hr : r = .shortFrame ∨ r = .badMarker ∨ r = .badCommand) : s.onReject r = .refused .windowInWindow := by
  rcases hr with rfl | rfl | rfl <;> rw [State.onReject, if_pos hw]

/-- A whole window is refused while another one is open, whatever its bytes. -/
theorem step_window_of_open (hw : s.win = true) (hin : s.input = .window out inb :: rest) :
    step s = .refused .windowInWindow := by
  cases windowCase s.cfg out inb with
  | rejected hr hdecode =>
    exact (step_of_reject (fetch_window hin) hdecode).trans (onReject_window_of_open (by exact hw) hr)
  | recognized _ _ hdecode =>
    exact (step_of_decode (fetch_window hin) hdecode).trans
      (exec_frameRow_of_open (by exact hw) (by rw [instrKind_frameInstr]; rfl))

/-! ### What the contract says of the next input (R290) -/

theorem contract_reset (w : Bool) (rest : List Input) : contract w (.reset :: rest) = contract false rest := by
  cases w <;> rfl

theorem contract_irqScan (w : Bool) (v : BitVec 32) (k : Nat) (rest : List Input) :
    contract w (.irqScan v k :: rest) = contract w rest := by
  cases w <;> rfl

theorem contract_window_iff {w : Bool} :
    contract w (.window out inb :: rest) = true ↔ w = false ∧ contract false rest = true := by
  cases w <;> simp [contract]

theorem contract_windowStart_iff {w : Bool} {e : BitVec 10} (he : decodeEvent e = .windowStart) :
    contract w (.event e :: rest) = true ↔ w = false ∧ contract true rest = true := by
  cases w <;> simp [contract, he]

theorem contract_outByte_iff {w : Bool} {e : BitVec 10} {b : Byte} (he : decodeEvent e = .outByte b) :
    contract w (.event e :: rest) = true ↔ w = true ∧ contract true rest = true := by
  cases w <;> simp [contract, he]

theorem contract_inByte_iff {w : Bool} {e : BitVec 10} {b : Byte} (he : decodeEvent e = .inByte b) :
    contract w (.event e :: rest) = true ↔ w = true ∧ contract true rest = true := by
  cases w <;> simp [contract, he]

theorem contract_windowEnd_iff {w : Bool} {e : BitVec 10} (he : decodeEvent e = .windowEnd) :
    contract w (.event e :: rest) = true ↔ w = true ∧ contract false rest = true := by
  cases w <;> simp [contract, he]

/-! ### A step under the contract -/

@[simp] theorem State.finishWindow_win (s : State) (outcome : Option Transaction × Cause) :
    (s.finishWindow outcome).win = false := by
  obtain ⟨_, _, _, _, h⟩ := s.finishWindow_frame outcome; rw [h]

@[simp] theorem State.finishWindow_input (s : State) (outcome : Option Transaction × Cause) :
    (s.finishWindow outcome).input = s.input := by
  obtain ⟨_, _, _, _, h⟩ := s.finishWindow_frame outcome; rw [h]

/-- The outcome goes on, and what is still to be delivered then keeps the contract. -/
def GoesOnUnderContract (r : Result) : Prop := ∃ t, r = .next t ∧ contract t.win t.input = true

theorem GoesOnUnderContract.of_next {r : Result} (hr : r = .next t) {w : Bool} (hw : t.win = w) (hin : t.input = rest)
    (hc : contract w rest = true) : GoesOnUnderContract r :=
  ⟨t, hr, by rw [hw, hin]; exact hc⟩

/-- An event the contract allows finds the window as it needs it, and no window is open in `Complete` (R36 f). -/
theorem Inv.exec_event_underContract (h : Inv s) {e : BitVec 10}
    (hc : contract s.win (.event e :: s.input) = true) : GoesOnUnderContract (exec (decodeEvent e) s) := by
  rcases decodeEvent_cases e with he | ⟨b, he⟩ | ⟨b, he⟩ | he <;> rw [he]
  · obtain ⟨hw, hrest⟩ := (contract_windowStart_iff he).mp hc
    exact .of_next (exec_windowStart_of_closed hw) rfl rfl hrest
  · obtain ⟨hw, hrest⟩ := (contract_outByte_iff he).mp hc
    exact .of_next (exec_outByte_of_open hw b) ((s.receiveOut_win b).trans hw) (s.receiveOut_input b) hrest
  · obtain ⟨hw, hrest⟩ := (contract_inByte_iff he).mp hc
    exact .of_next (exec_inByte_of_open hw b) hw rfl hrest
  · obtain ⟨hw, hrest⟩ := (contract_windowEnd_iff he).mp hc
    exact .of_next ((exec_windowEnd_of_open hw).trans (h.closeWindow_eq hw)) (State.finishWindow_win ..)
      (State.finishWindow_input ..) hrest

theorem step_irqScan_underContract {v : BitVec 32} {k : Nat} (hin : s.input = .irqScan v k :: rest)
    (hc : contract s.win rest = true) : GoesOnUnderContract (step s) := by
  cases hlow : lowestIrqBit s.cfg (irqRemaining v k) with
  | none => exact .of_next (step_irqScan_of_none hin hlow) rfl rfl hc
  | some n => exact .of_next (step_irqScan_of_lowest hin hlow) rfl rfl ((contract_irqScan ..).trans hc)

/-- Under the contract no step stops, whatever the next input is. -/
theorem Inv.step_underContract (h : Inv s) (hc : contract s.win s.input = true) : GoesOnUnderContract (step s) := by
  cases hin : s.input with
  | nil => exact ⟨s, step_idle hin, hc⟩
  | cons next rest =>
    rw [hin] at hc
    cases next with
    | event e =>
      rw [step_event hin]
      exact (h.of_delivery s.irqOut rest).exec_event_underContract hc
    | window out inb =>
      obtain ⟨hw, hrest⟩ := contract_window_iff.mp hc
      exact .of_next (step_window hw hin) (State.finishWindow_win ..) (State.finishWindow_input ..) hrest
    | irqScan v k => exact step_irqScan_underContract hin ((contract_irqScan ..).symm.trans hc)
    | reset => exact .of_next (step_reset hin) rfl rfl ((contract_reset ..).symm.trans hc)

end Sys2Proof.Machine
end

section
/-! CERTIFICATES. The statements about reset and the interface contract (spec/70_reset_and_hazards.md). -/

namespace Sys2Proof.Machine

open Sys2Proof

/-- Settles O46, by induction on the number of steps: each goes on and keeps the invariant and the contract. -/
theorem contractRunsNeverStop : Obligations.ContractRunsNeverStop := by
  intro s k
  induction k generalizing s with
  | zero => exact fun h hc => ⟨s, rfl, h, hc⟩
  | succ k ih =>
    intro h hc
    obtain ⟨u, hstep, hcu⟩ := h.step_underContract hc
    rw [run_succ_of_step hstep]
    exact ih u (stepKeepsInvariant s u h hstep) hcu

/-- Settles O51: the step's state is the reset registers' one with the rest of the input. -/
theorem resetInputAbandonsTheWindow : Obligations.ResetInputAbandonsTheWindow := by
  intro s rest hin
  exact ⟨_, step_reset hin, rfl, rfl, rfl, rfl, rfl, rfl, rfl, rfl, rfl, rfl⟩

/-- Settles O27: each event's own test of `win`, and that of a whole window, legal or not. -/
theorem contractBreachesAreRefused : Obligations.ContractBreachesAreRefused :=
  ⟨fun _ => exec_windowStart_of_open, fun _ b hw => exec_outByte_of_closed hw b,
    fun _ b hw => exec_inByte_of_closed hw b, fun _ => exec_windowEnd_of_closed, fun _ _ => exec_frameRow_of_open,
    fun _ _ _ _ => step_window_of_open⟩

end Sys2Proof.Machine
end
